-- ==== Sys2Proof/Word.lean ====
section
/-! DEFINITION. The words of the part that the manual treats as bits: the bytes of a frame and the 64-bit port masks. -/

namespace Sys2Proof

/-- One byte on a management link or a slot link (12_frame_and_record_formats.md, section 12.1). -/
abbrev Byte := BitVec 8

/-- A set of ports as the 64-bit mask of section 12.2: bit q stands for port q. -/
abbrev PortSet := BitVec 64

/-- A port number, 0 to 63 (00_scope.md, Numbering). -/
abbrev PortNo := Fin 64

/-- A slot number, 0 to 7 (00_scope.md, Numbering). -/
abbrev SlotNo := Fin 8

/-- A supply bay, 0 to 3 (00_scope.md, Numbering). -/
abbrev BayNo := Fin 4

end Sys2Proof
end

