-- ==== Sys2Proof/Syntax.lean ====
section
/-! DEFINITION. The commands the part takes: one constructor for each row of spec/opcode_table.json, with the row's operands.
A row that serves a request names the link whose receive queue's head it serves (R169, entry 5); the request's fields are the
bytes of that frame. -/

namespace Sys2Proof

/-- The two management links (00_scope.md, The Chassis). -/
inductive Link where
  | a
  | b
  deriving DecidableEq, Repr

/-- The license tiers of certificates and ports (R102, R91). -/
inductive Tier where
  | base
  | high
  deriving DecidableEq, Repr

/-- What the sources return in one sweep (R1, R3, R4): the two reference codes, the eight current codes, and for each
temperature sensor its answer, or none where it does not complete its answer within its sweep slot. -/
structure Readings where
  refLo : BitVec 12
  refHi : BitVec 12
  cur : Vector (BitVec 12) 8
  temp : Vector (Option Int) 16
  deriving DecidableEq, Repr

/-- One block's reaction to a publication (R42, R64, R70), which the rules leave in either order. -/
inductive PubAction where
  /-- the budget evaluation that an inlet window causes (R43) -/
  | budget
  /-- the SPC's action on the level-entry event of T0 to T11 (R70) -/
  | level (i : Fin 16)
  /-- the SPC's judgement of a window of Cs (R64) -/
  | current (s : SlotNo)
  deriving DecidableEq, Repr

/-- The receivers a start byte can arrive at (R166, R77). -/
inductive RxLine where
  | mgmt (l : Link)
  | slot (s : SlotNo)
  deriving DecidableEq, Repr

/-- The commands, in the order of spec/opcode_table.json. -/
inductive Instr where
  | powerOnReset
  | supplyDip
  | externalReset
  | supervisorRestartReset
  | resetEnd
  /-- the readings of the sweep, and how many of the 24 measurement channels' turns (C0 to C7, then T0 to T15) come before the
  first SENSOR CONFIGURE of the sweep takes effect, how many between it and the second, and so on; the rest come at the
  sweep's end (entry 6) -/
  | sweepStart (r : Readings) (turns : List Nat)
  /-- the order in which the consumers react to the publication; what is left out follows in a fixed order (entry 7) -/
  | sweepEnd (order : List PubAction)
  | sensorRead (l : Link)
  | sensorConfigure (l : Link)
  | thresholdSet (l : Link)
  | referenceStatus (l : Link)
  | tachometerEdge (f : Fin 6)
  | controlPeriod
  | trayRemoved (t : Fin 3)
  | trayInserted (t : Fin 3)
  | trayCountdownExpiry (t : Fin 3)
  | groupSet (l : Link)
  | curveSet (l : Link)
  | fanRatingSet (l : Link)
  | coolingRead (l : Link)
  | supplyPresenceRise (b : BayNo)
  | supplyPresenceFall (b : BayNo)
  | supplyPowerGoodRise (b : BayNo)
  | supplyPowerGoodFall (b : BayNo)
  | supplyFaultAssert (b : BayNo)
  | supplyFaultClear (b : BayNo)
  | supplyWaitExpiry (b : BayNo)
  | supplySet (l : Link)
  | budgetModeSet (l : Link)
  | reserveSet (l : Link)
  | budgetRead (l : Link)
  | slotPresenceRise (s : SlotNo)
  | slotRemoval (s : SlotNo)
  | slotPowerGoodRise (s : SlotNo)
  | slotPowerGoodFall (s : SlotNo)
  /-- `holds`: whether the line still stands asserted once the event is over (entry 16) -/
  | hotSwapFaultAssert (s : SlotNo) (holds : Bool)
  | rampTimerExpiry (s : SlotNo)
  | retryTimerExpiry (s : SlotNo)
  | stableTimerExpiry (s : SlotNo)
  | slotPowerOn (l : Link)
  | slotPowerOff (l : Link)
  | slotUnlock (l : Link)
  | slotConfigure (l : Link)
  | slotRead (l : Link)
  | slotLinkBadFrame (s : SlotNo)
  | slotLinkGapTimeout (s : SlotNo)
  /-- the frame's bytes after its start byte, as for the two rows below -/
  | slotStatus (s : SlotNo) (wire : List Byte)
  | updateAck (s : SlotNo) (wire : List Byte)
  | slotLinkOtherFrame (s : SlotNo) (wire : List Byte)
  | portConfigure (l : Link)
  | portActivate (l : Link)
  | portDeactivate (l : Link)
  | portResume (l : Link)
  | portRead (l : Link)
  | graceExpiry (t : Tier)
  | minuteTick
  | certExpiry (place : Fin 16)
  | counterSaveComplete (ok : Bool)
  | repairWriteComplete (ok : Bool)
  | certInstall (l : Link)
  | certInstallComplete (ok : Bool)
  | certRemove (l : Link)
  | certRemoveComplete (ok : Bool)
  | licenseRead (l : Link)
  | graceSet (l : Link)
  | zoneBegin (l : Link)
  | zonePut (l : Link)
  | zoneDelete (l : Link)
  | zoneDefault (l : Link)
  | zoneAbort (l : Link)
  | zoneCommit (l : Link)
  | zoneRead (l : Link)
  | nodeAttach (l : Link)
  | nodeDetach (l : Link)
  | nodeRead (l : Link)
  | permissionUpdateSent (s : SlotNo)
  | responseTimerExpiry (s : SlotNo)
  | resendTimerExpiry (s : SlotNo)
  | enforcementRead (l : Link)
  | watchRead (l : Link)
  | watchRelease (l : Link)
  | watchList (l : Link)
  /-- the frame's bytes after its start byte: type, tag, flags, length, body, CRC -/
  | linkFrameReceived (l : Link) (wire : List Byte)
  | linkBadFrame (l : Link)
  | linkGapTimeout (l : Link)
  | linkBreak (l : Link)
  | breakEnd (l : Link)
  | linkTransmitEnd (l : Link)
  | unknownRequest (l : Link)
  | identify (l : Link)
  | linkStatus (l : Link)
  | resetCauseRead (l : Link)
  | supervisorRestart (l : Link)
  | masterClaim (l : Link)
  | masterRelease (l : Link)
  | standbyRegister (l : Link)
  | heartbeat (l : Link)
  | heartbeatWindowSet (l : Link)
  | masterDeadlineExpiry
  | standbyLapse (l : Link)
  | uptimeTick
  | alertRead (l : Link)
  | alertClear (l : Link)
  | alertEnable (l : Link)
  | frameStartByte (r : RxLine)
  | lineFallsLow (l : Link)
  | lineRisesBeforeBreak (l : Link)
  | supplyFallInResetHold
  deriving DecidableEq, Repr

end Sys2Proof
end

