-- ==== Sys2Proof/Config.lean ====
section
/-! DEFINITION. What is fixed for one part and one chassis: the identity of R177 and the certificate verifier of R105. The
opaque constants have no value in the model, so that whatever is proved holds for every value of them (entry 12). -/

namespace Sys2Proof.Config

/-- The vendor code IDENTIFY returns (R177). -/
def vendorCode : Nat := 0xD41A

/-- The part code IDENTIFY returns (R177). -/
def partCode : Nat := 0x5C40

/-- DESIGN CHOICE (entry 12): the silicon revision, of which R177 says only that it counts from 1. -/
opaque siliconRevision : Nat

/-- DESIGN CHOICE (entry 12): the 64-bit chassis serial, held in the part from manufacture (R177). -/
opaque chassisSerial : Nat

/-- DESIGN CHOICE (entry 12): the validation code the part's verifier computes from a certificate's id, tier (BASE 0,
HIGH 1), seats, expiry and bound serial, with the chassis serial and the factory key held inside the part. Its computation
lies outside the manual (R105), so it is a function nothing is known of. -/
opaque validationCode (id tier seats expiry serial : Nat) : Nat

end Sys2Proof.Config
end

