-- ==== Sys2Proof/Machine/State.lean ====
section
/-! DEFINITION. Everything the spec gives the part to hold, as plain data: one structure per functional block of 00_scope.md,
the lines, the reset hold, the clock, and the queue of waiting commands; and the state right after a reset. Timers are held as
the clock times at which they end (entry 1). -/

namespace Sys2Proof.Machine

/-! ## Sensor Scan Unit (01_sensor_acquisition.md) -/

/-- A sample or an average: a value, NOT-A-READING, or nothing yet (section 1.1). -/
inductive Reading where
  | absent
  | nar
  | value (v : Int)
  deriving DecidableEq, Repr

/-- Channel health (R8). -/
inductive Health where
  | active
  | failed
  deriving DecidableEq, Repr

/-- Temperature levels (section 1.6). -/
inductive Level where
  | normal
  | warning
  | critical
  | shutdown
  deriving DecidableEq, Repr

/-- The record of one measurement channel (section 1.1). -/
structure ChanRec where
  enabled : Bool := true
  k : Fin 4 := 1
  acc : Int := 0
  count : Nat := 0
  poisoned : Bool := false
  recent : Reading := .absent
  published : Reading := .absent
  narRuns : Nat := 0
  health : Health := .active
  deriving DecidableEq, Repr

/-- What a temperature channel's record holds besides (section 1.1). -/
structure LimitRec where
  warning : Int
  critical : Int
  shutdown : Int
  hyst : Int := 6
  level : Level := .normal
  deriving DecidableEq, Repr

/-- Where a channel's turn in the sweep in progress stands (R1, R2): to come, taken with the sample held, taken with the
sample discarded because the channel was disabled since, or passed with the channel disabled. -/
inductive Turn where
  | waiting
  | taken
  | lost
  | skipped
  deriving DecidableEq, Repr

/-- A sweep in progress: what its sources return, the channels' turns (R1), how many turns have come, and how many come after
each of the SENSOR CONFIGUREs that are still to take effect in it (entry 6). -/
structure Sweep where
  readings : Readings
  cur : Vector Turn 8 := Vector.ofFn fun _ => .waiting
  temp : Vector Turn 16 := Vector.ofFn fun _ => .waiting
  come : Nat := 0
  later : List Nat := []
  deriving DecidableEq, Repr

/-- The default thresholds of section 1.6, by role. -/
def defaultLimits (i : Fin 16) : LimitRec :=
  if i.val < 2 then ⟨80, 90, 100, 6, .normal⟩
  else if i.val < 4 then ⟨120, 140, 150, 6, .normal⟩
  else if i.val < 12 then ⟨150, 170, 190, 6, .normal⟩
  else ⟨140, 160, 180, 6, .normal⟩

structure Ssu where
  cur : Vector ChanRec 8 := Vector.ofFn fun _ => {}
  temp : Vector ChanRec 16 := Vector.ofFn fun _ => {}
  limits : Vector LimitRec 16 := Vector.ofFn defaultLimits
  loPass : Bool := false
  loFail : Bool := false
  hiPass : Bool := false
  hiFail : Bool := false
  loCode : Option Nat := none
  hiCode : Option Nat := none
  sweep : Option Sweep := none
  /-- when the next sweep starts (R1) -/
  sweepDue : Nat := 0
  deriving DecidableEq, Repr

/-! ## Cooling Controller (02_cooling.md) -/

inductive GroupMode where
  | auto
  | manual
  deriving DecidableEq, Repr

/-- An airflow group (section 2.1). Its fan set is the set of the fans whose record names it (entry 21). -/
structure GroupRec where
  sensors : BitVec 16
  mode : GroupMode := .auto
  manual : Nat := 100
  dmin : Nat := 30
  boost : Nat := 20
  downSlew : Nat := 2
  lastDemand : Option Nat := none
  duty : Nat := 100
  deriving DecidableEq, Repr

inductive FanState where
  | ok
  | slow
  | stopped
  | absent
  deriving DecidableEq, Repr

/-- A fan (section 2.1), with its output's high ticks of 400 (R28). -/
structure FanRec where
  group : Fin 3
  rated : Nat := 12000
  edges : Nat := 0
  lastEdges : Nat := 0
  measured : Option Nat := none
  expMin : Option Nat := none
  applied : Nat := 100
  state : FanState := .ok
  slowCount : Nat := 0
  reentry : Bool := false
  highTicks : Nat := 400
  deriving DecidableEq, Repr

inductive Countdown where
  | idle
  | running (ends : Nat)
  | expired
  deriving DecidableEq, Repr

structure TrayRec where
  present : Bool := true
  countdown : Countdown := .idle
  deriving DecidableEq, Repr

/-- A fan curve (section 2.1). -/
structure Curve where
  low : Int
  high : Int
  deriving DecidableEq, Repr

/-- The default curves of section 2.1, by role. -/
def defaultCurve (i : Fin 16) : Curve :=
  if i.val < 2 then ⟨50, 90⟩
  else if i.val < 4 then ⟨90, 140⟩
  else if i.val < 12 then ⟨110, 160⟩
  else ⟨100, 150⟩

/-- The default sensor sets of section 2.1. -/
def defaultSensors (g : Fin 3) : BitVec 16 :=
  if g.val = 0 then 0x0073#16 else if g.val = 1 then 0x0387#16 else 0xFC0A#16

/-- The tray of a fan: Fi is in tray floor(i/2) (00_scope.md, Numbering). -/
def trayOf (f : Fin 6) : Fin 3 := ⟨f.val / 2, by omega⟩

structure Clc where
  groups : Vector GroupRec 3 := Vector.ofFn fun g => { sensors := defaultSensors g }
  fans : Vector FanRec 6 := Vector.ofFn fun f => { group := trayOf f }
  trays : Vector TrayRec 3 := Vector.ofFn fun _ => {}
  curves : Vector Curve 16 := Vector.ofFn defaultCurve
  /-- when the gate in progress ends (R18) -/
  gateEnd : Nat := 1000
  deriving DecidableEq, Repr

/-! ## Power Budget Unit (03_chassis_power_budget.md) -/

inductive SupplyState where
  | absent
  | starting
  | online
  | faulted
  deriving DecidableEq, Repr

structure SupplyRec where
  state : SupplyState := .absent
  capacity : Nat := 0
  wait : Option Nat := none
  stamp : Nat := 0
  deriving DecidableEq, Repr

inductive Redundancy where
  | none
  | nPlus1
  | grid
  deriving DecidableEq, Repr

structure Pbu where
  supplies : Vector SupplyRec 4 := Vector.ofFn fun _ => {}
  mode : Redundancy := .none
  reserve : Nat := 400
  margin : Nat := 20
  tin : Option Int := .none
  raw : Nat := 0
  derate : Nat := 25
  available : Nat := 0
  allocated : Nat := 400
  redLost : Bool := false
  overcommit : Bool := false
  heldBase : Vector (Option Nat) 8 := Vector.ofFn fun _ => .none
  restoreQ : List PortNo := []
  deriving DecidableEq, Repr

/-! ## Slot Power Controller (04_slot_power_and_protection.md) -/

inductive SlotState where
  | empty
  | off
  | queued
  | powering
  | powered
  | retryWait
  | lockedOut
  deriving DecidableEq, Repr

inductive SlotCause where
  | host
  | removed
  | budget
  | thermal
  | cooling
  | fault
  | lockout
  deriving DecidableEq, Repr

/-- The four kinds of slot fault (section 4.3). -/
inductive FaultKind where
  | ramp
  | pgood
  | hotswap
  | overcurrent
  deriving DecidableEq, Repr

/-- A PERMISSION UPDATE on its way to a blade (section 12.7): the generation and the rows of the slot's eight ports. -/
structure PermUpdate where
  gen : Nat
  rows : List PortSet
  deriving DecidableEq, Repr

inductive Rx where
  | idle
  | inFrame
  | brk
  deriving DecidableEq, Repr

/-- A slot's record, its working state (section 4.1), its enable line and its slot link's two ends (R77). -/
structure SlotRec where
  present : Bool := false
  state : SlotState := .empty
  cause : Option SlotCause := none
  base : Nat := 300
  limit : Nat := 2500
  ocDelay : Nat := 2
  retryEnable : Bool := true
  maxAttempts : Nat := 3
  attempts : Nat := 0
  retryDelay : Nat := 10
  prot : Bool := false
  stamp : Nat := 0
  ramp : Option Nat := none
  retry : Option Nat := none
  /-- when the stable timer started -/
  stable : Option Nat := none
  ocCount : Nat := 0
  statusSeen : Bool := false
  health : Nat := 0
  passive : Bool := false
  enable : Bool := false
  rx : Rx := .idle
  /-- updates leaving on the slot link, the one on the line first -/
  tx : List PermUpdate := []
  deriving DecidableEq, Repr

structure Spc where
  slots : Vector SlotRec 8 := Vector.ofFn fun _ => {}
  queue : List SlotNo := []
  deriving DecidableEq, Repr

/-! ## Port Controller (05_ports.md) -/

inductive PortState where
  | offline
  | active
  | shed
  | held
  | suspended
  deriving DecidableEq, Repr

inductive Seat where
  | none
  | base
  | high
  | borrowed
  deriving DecidableEq, Repr

inductive PortCause where
  | host
  | optic
  | slotOff
  | slotLockout
  | license
  deriving DecidableEq, Repr

structure PortRec where
  tier : Tier := .base
  priority : Fin 4 := 2
  optic : Option (Fin 4) := .none
  seated : Option (Fin 4) := .none
  state : PortState := .offline
  seat : Seat := .none
  admitted : Option Nat := .none
  cause : Option PortCause := .none
  stamp : Nat := 0
  deriving DecidableEq, Repr

structure Ptc where
  ports : Vector PortRec 64 := Vector.ofFn fun _ => {}
  deriving DecidableEq, Repr

/-! ## License Unit and License Store (06_port_licensing.md) -/

/-- The fields of a certificate that its store record holds (section 6.1). -/
structure CertData where
  id : Nat
  tier : Tier
  seats : Nat
  expiry : Nat
  serial : Nat
  code : Nat
  deriving DecidableEq, Repr

/-- A certificate of the table. -/
structure CertEntry where
  data : CertData
  expired : Bool := false
  stamp : Nat := 0
  deriving DecidableEq, Repr

/-- A certificate record of the store (section 6.2). -/
inductive StoreRec where
  | nothing
  | torn
  | whole (c : CertData) (lapsed : Bool)
  deriving DecidableEq, Repr

/-- The counter record of the store (R111). -/
inductive CounterRec where
  | never
  | torn
  | whole (n : Nat)
  deriving DecidableEq, Repr

/-- A condition block (R162): the watch ids and whether its mode is CONSUME. -/
structure Cond where
  ids : List Nat
  consume : Bool
  deriving DecidableEq, Repr

/-- The write the store is busy with (R104). -/
inductive StoreOp where
  | install (place : Fin 16) (c : CertData) (l : Link)
  | erase (place : Fin 16) (l : Link) (cond : Option Cond)
  | save (value : Nat)
  | mark (place : Fin 16)
  | repairCounter (value : Nat)
  deriving DecidableEq, Repr

inductive Grace where
  | idle
  | running (deadline : Nat)
  deriving DecidableEq, Repr

/-- One row of the seat table with its tier's grace timer (section 6.6.1, section 6.7). -/
structure TierRec where
  total : Nat := 0
  held : Nat := 0
  grace : Grace := .idle
  deriving DecidableEq, Repr

structure Lcu where
  table : Vector (Option CertEntry) 16 := Vector.ofFn fun _ => none
  base : TierRec := {}
  high : TierRec := {}
  borrowers : List PortNo := []
  graceLen : Nat := 4320
  counter : Nat := 0
  /-- when the next minute tick comes (R109) -/
  minuteDue : Nat := 60000
  op : Option StoreOp := none
  savePending : Bool := false
  deriving DecidableEq, Repr

/-- The License Store, kept across resets and without power (R123). -/
structure Store where
  certs : Vector StoreRec 16 := Vector.ofFn fun _ => .nothing
  counter : CounterRec := .never
  deriving DecidableEq, Repr

/-! ## Zoning Engine (07_zoning.md) -/

inductive Member where
  | port (p : PortNo)
  | node (n : Nat)
  deriving DecidableEq, Repr

structure Zone where
  id : Nat
  members : List Member
  deriving DecidableEq, Repr

inductive AccessMode where
  | isolate
  | opened
  deriving DecidableEq, Repr

/-- A zone of the active set, with its stamp (R125). -/
structure ActiveZone where
  zone : Zone
  stamp : Nat
  deriving DecidableEq, Repr

/-- The staged set of an open transaction, with its base generation (section 7.2). -/
structure Staged where
  zones : List Zone
  mode : AccessMode
  baseGen : Nat
  deriving DecidableEq, Repr

/-- An assembly in progress (section 7.2). -/
structure Assembly where
  id : Nat
  parts : Nat
  next : Nat
  members : List Member
  deriving DecidableEq, Repr

structure NodeEntry where
  node : Nat
  port : PortNo
  stamp : Nat
  deriving DecidableEq, Repr

structure Zne where
  zones : List ActiveZone := []
  mode : AccessMode := .isolate
  gen : Nat := 0
  stamp : Nat := 0
  /-- the transaction: none while CLOSED -/
  staged : Option Staged := none
  assembly : Option Assembly := none
  nodes : List NodeEntry := []
  deriving DecidableEq, Repr

/-! ## Enforcement Distribution Unit (08_enforcement_distribution.md) -/

inductive StepState where
  | unpowered
  | sending
  | inStep
  | outOfStep
  deriving DecidableEq, Repr

structure StepRec where
  state : StepState := .unpowered
  acked : Option Nat := none
  sent : Option Nat := none
  dirty : Bool := false
  response : Option Nat := none
  resend : Option Nat := none
  deriving DecidableEq, Repr

/-- The permissions in force: the ZNE's reach matrix (R138), and the EDU's eligible set (R143), rows and generation (R144). -/
structure Perm where
  reach : Vector PortSet 64 := Vector.ofFn fun _ => 0
  eligible : PortSet := 0
  rows : Vector PortSet 64 := Vector.ofFn fun _ => 0
  gen : Nat := 0
  deriving DecidableEq, Repr

structure Edu where
  steps : Vector StepRec 8 := Vector.ofFn fun _ => {}
  deriving DecidableEq, Repr

/-! ## Watch Table (09_watches_and_conditional_requests.md) -/

inductive RecKind where
  | port
  | slot
  | supply
  | cert
  | node
  | zone
  | zoneset
  deriving DecidableEq, Repr

/-- A watch entry (section 9.2); its age is its place in the list, oldest first. -/
structure Watch where
  id : Nat
  owner : Link
  kind : RecKind
  key : Nat
  stamp : Nat
  deriving DecidableEq, Repr

structure Wtb where
  next : Nat := 1
  idCounter : Nat := 1
  entries : List Watch := []
  deriving DecidableEq, Repr

/-! ## Alert Controller (11_alerts.md) -/

inductive SubjectKind where
  | channel
  | reference
  | fan
  | tray
  | bay
  | slot
  | port
  | cert
  | store
  | tier
  | link
  | chassis
  deriving DecidableEq, Repr

/-- An alert event (section 11.1): its subject, its code and details (section 12.6), and the uptime it came at. -/
structure Event where
  kind : SubjectKind
  index : Nat
  code : Nat
  details : List Int
  uptime : Nat
  deriving DecidableEq, Repr

structure ClassRec where
  count : Nat := 0
  last : Option Event := none
  notify : Bool := true
  unnoticed : Bool := false
  deriving DecidableEq, Repr

/-- A formed ALERT NOTICE (R181): the class, its count and last event as they stood. -/
structure Notice where
  cls : Fin 11
  count : Nat
  event : Option Event
  deriving DecidableEq, Repr

structure Atc where
  classes : Vector ClassRec 11 := Vector.ofFn fun _ => {}
  uptime : Nat := 0
  /-- when the next uptime second comes (R180) -/
  uptimeDue : Nat := 1000
  deriving DecidableEq, Repr

/-! ## Management links and mastership (10_management_links_and_mastership.md) -/

/-- A frame as received: type, tag, flags and body (section 12.1). -/
structure Frame where
  ty : Byte
  tag : Byte
  flags : Byte
  body : List Byte
  deriving DecidableEq, Repr

/-- The status codes of R171. -/
inductive Status where
  | ok
  | clamped
  | unknownType
  | short
  | badValue
  | notMaster
  | held
  | early
  | wrongState
  | notFound
  | noSeat
  | budget
  | tableFull
  | tooLarge
  | duplicate
  | stale
  | busy
  | invalidCert
  | storeFault
  | noTransaction
  deriving DecidableEq, Repr

/-- One field of a reply: its size in bytes and its value, sent most-significant byte first (R186). -/
structure Item where
  size : Nat
  val : Nat
  deriving DecidableEq, Repr

/-- A reply: the request's type and tag, the status code and the contents (section 12.3). -/
structure Reply where
  ty : Byte
  tag : Byte
  status : Status
  items : List Item
  deriving DecidableEq, Repr

/-- What a management link's transmitter can be sending (R173). -/
inductive OutFrame where
  | reply (r : Reply)
  | notice (n : Notice)
  deriving DecidableEq, Repr

/-- One link's interface, and the link's part of the mastership state. -/
structure LinkRec where
  rx : Rx := .idle
  errs : Nat := 0
  overrun : Nat := 0
  queue : List Frame := []
  /-- the head of the queue is in service, waiting for its store write (R170) -/
  inService : Bool := false
  reply : Option Reply := none
  notice : Option Notice := none
  tx : Option OutFrame := none
  standby : Bool := false
  deadline : Option Nat := none
  lastGood : Option Nat := none
  deriving DecidableEq, Repr

/-- The reset-cause set (R178). -/
structure Causes where
  power : Bool := false
  dip : Bool := false
  ext : Bool := false
  command : Bool := false
  deriving DecidableEq, Repr

structure Msa where
  master : Option Link := none
  hmin : Nat := 0
  hmax : Nat := 3000
  deriving DecidableEq, Repr

structure Mli where
  a : LinkRec := {}
  b : LinkRec := {}
  deriving DecidableEq, Repr

/-! ## Lines, resets, clock and the work of one event -/

/-- The levels of the input lines (00_scope.md, External Connections): true is high, or asserted for a fault line. -/
structure Lines where
  supplyPresence : Vector Bool 4 := Vector.ofFn fun _ => false
  supplyPowerGood : Vector Bool 4 := Vector.ofFn fun _ => false
  supplyFault : Vector Bool 4 := Vector.ofFn fun _ => false
  slotPresence : Vector Bool 8 := Vector.ofFn fun _ => false
  slotPowerGood : Vector Bool 8 := Vector.ofFn fun _ => false
  hotSwap : Vector Bool 8 := Vector.ofFn fun _ => false
  tray : Vector Bool 3 := Vector.ofFn fun _ => false
  externalReset : Bool := false
  /-- a management line is low; it idles high (R166, R167) -/
  lowA : Bool := false
  lowB : Bool := false
  deriving DecidableEq, Repr

/-- The reset conditions in progress (R178): the supply monitor's 4 ms, the external line, the restart's 1 ms. -/
structure Hold where
  supply : Option Nat := none
  ext : Bool := false
  restart : Option Nat := none
  deriving DecidableEq, Repr

/-- What one event still has to do before it ends (entry 8). The model's own; empty between events. -/
structure Work where
  /-- the PBU has shed in this event (R51) -/
  shed : Bool := false
  /-- a restore pass is called for (R51) -/
  restore : Bool := false
  /-- the power-on queue is to be judged (R60) -/
  judge : Bool := false
  /-- seats of the tier are to be reclaimed (R119) -/
  reclaimBase : Bool := false
  reclaimHigh : Bool := false
  /-- the tier a reclaim in progress takes seats from (R117) -/
  reclaiming : Option Tier := none
  /-- the reach matrix is to be compiled (R137, R139) -/
  compile : Bool := false
  /-- the rows are to be re-formed and the step records served (R144, R145) -/
  edu : Bool := false
  /-- slots that entered POWERED in this event (R145) -/
  entered : List SlotNo := []
  /-- records that took their one stamp of this event (R57, R82) -/
  stampedPorts : List PortNo := []
  stampedSlots : List SlotNo := []
  deriving DecidableEq, Repr

/-- The part: every block's state. -/
structure Dev where
  /-- milliseconds since the last reset ended (entry 1) -/
  now : Nat := 0
  lines : Lines := {}
  ssu : Ssu := {}
  clc : Clc := {}
  pbu : Pbu := {}
  spc : Spc := {}
  ptc : Ptc := {}
  lcu : Lcu := {}
  store : Store := {}
  zne : Zne := {}
  perm : Perm := {}
  edu : Edu := {}
  wtb : Wtb := {}
  atc : Atc := {}
  mli : Mli := {}
  msa : Msa := {}
  causes : Causes := {}
  /-- the reset the part is held in, if any (R178) -/
  hold : Option Hold := none
  work : Work := {}
  deriving DecidableEq, Repr

/-- The machine: the part and the commands that wait, first in, first out. -/
structure State where
  dev : Dev
  pending : List Instr
  deriving DecidableEq, Repr

/-- The part has no exception and no step that stops it, so there is no fault (INVENTORY.md, Faults). Nothing raises one:
safe. -/
inductive Fault where
  deriving DecidableEq, Repr

/-- Why a step has no meaning. -/
inductive Refusal where
  /-- raised by exec's arm of a command that has no meaning yet; safe, since nothing is claimed of the command -/
  | notModelled (mnemonic : String)
  deriving DecidableEq, Repr

/-! ## The state after reset -/

/-- The COOLING event of the last fan found in an absent tray as the reset ends (R29). -/
def resetCoolingEvent : Event := ⟨.fan, 5, 0x23, [], 0⟩

/-- The POWER event of the overcommit found by the first budget evaluation (R52). -/
def resetPowerEvent : Event := ⟨.chassis, 0, 0x35, [400, 0], 0⟩

/-- The LICENSE event of the counter record that was never written (R111). -/
def resetLicenseEvent : Event := ⟨.store, 16, 0x54, [], 0⟩

/-- Each link as the reset ends: the first notice on the line and the second in its place (R181, R185). -/
def resetLink : LinkRec :=
  { notice := some ⟨3, 1, some resetPowerEvent⟩, tx := some (.notice ⟨2, 6, some resetCoolingEvent⟩) }

/-- The alert classes as the reset ends: the COOLING and POWER notices are formed, the LICENSE one waits (R181). -/
def resetClasses (c : Fin 11) : ClassRec :=
  if c.val = 2 then { count := 6, last := some resetCoolingEvent }
  else if c.val = 3 then { count := 1, last := some resetPowerEvent }
  else if c.val = 5 then { count := 1, last := some resetLicenseEvent, unnoticed := true }
  else {}

/-- The part right after its first power-on reset has ended (R13, R29, R52, R77, R101, R123, R142, R156, R157, R179, R185),
with every input line low and the License Store never written (entry 3). -/
def Dev.atReset : Dev :=
  { clc := { trays := Vector.ofFn fun _ => ⟨false, .running 120000⟩
             fans := Vector.ofFn fun f => { group := trayOf f, state := .absent } }
    pbu := { overcommit := true }
    lcu := { op := some (.repairCounter 0) }
    atc := { classes := Vector.ofFn resetClasses }
    mli := { a := resetLink, b := resetLink }
    causes := { power := true } }

/-- The machine right after reset, with no command waiting. -/
def State.reset : State := { dev := Dev.atReset, pending := [] }

end Sys2Proof.Machine
end

