-- ==== Sys2Proof/Machine/Frames.lean ====
section
/-! DEFINITION. The frame of section 12.1: byte order and CRC-16 (R186), the judgement of a frame that arrives (R166, R74), and
the bytes of the frames the part sends (section 12.3, 12.6, 12.7). -/

namespace Sys2Proof.Machine

/-- A value as `n` bytes, most-significant byte first (R186). -/
def beBytes : Nat → Nat → List Byte
  | 0, _ => []
  | n + 1, v => BitVec.ofNat 8 (v / 256 ^ n) :: beBytes n v

/-- The value of bytes sent most-significant first (R186). -/
def beNat (l : List Byte) : Nat := l.foldl (fun a b => a * 256 + b.toNat) 0

/-- A signed value as two's complement in `n` bytes (section 12.2). -/
def twos (n : Nat) (v : Int) : Nat := (v % (256 ^ n : Nat)).toNat

/-- One bit into the CRC register, polynomial x^16 + x^12 + x^5 + 1 (R186). -/
def crcBit (r : BitVec 16) (b : Bool) : BitVec 16 :=
  if r.msb ^^ b then (r <<< 1) ^^^ 0x1021#16 else r <<< 1

/-- One byte into the CRC register, most-significant bit first (R186). -/
def crcByte (r : BitVec 16) (b : Byte) : BitVec 16 :=
  [7, 6, 5, 4, 3, 2, 1, 0].foldl (fun r i => crcBit r (b.getLsbD i)) r

/-- The CRC-16 of R186: the register starts at 0xFFFF, no final inversion. -/
def crc16 (l : List Byte) : BitVec 16 := l.foldl crcByte 0xFFFF#16

/-- The largest body (section 12.1). -/
def maxBody : Nat := 496

/-- The bytes the CRC covers: type to the last body byte (R186). -/
def Frame.covered (f : Frame) : List Byte := f.ty :: f.tag :: f.flags :: (beBytes 2 f.body.length ++ f.body)

/-- The bytes of a frame after its start byte (section 12.1). -/
def Frame.wire (f : Frame) : List Byte := f.covered ++ beBytes 2 (crc16 f.covered).toNat

/-- What has arrived at a receiver. -/
inductive Arrival where
  /-- the last CRC byte has not come -/
  | unfinished
  | bad
  | good (f : Frame)
  deriving DecidableEq, Repr

/-- The judgement of the bytes after a start byte (R166, R74): bad when the length exceeds 496 or the CRC does not match. -/
def arrival (w : List Byte) : Arrival :=
  match w with
  | ty :: tag :: flags :: hi :: lo :: rest =>
    let len := beNat [hi, lo]
    if maxBody < len then .bad
    else if rest.length < len + 2 then .unfinished
    else
      let f : Frame := ⟨ty, tag, flags, rest.take len⟩
      if beNat ((rest.drop len).take 2) = (crc16 f.covered).toNat then .good f else .bad
  | _ => .unfinished

/-- Flag bit COND of a frame (section 12.1). -/
def Frame.hasCond (f : Frame) : Bool := f.flags.getLsbD 0

/-- Flag bits REPLY and NOTICE of a frame (section 12.1). -/
def Frame.notRequest (f : Frame) : Bool := f.flags.getLsbD 1 || f.flags.getLsbD 2

/-- The values of the status codes (section 12.3). -/
def Status.code : Status → Nat
  | .ok => 0x00
  | .clamped => 0x01
  | .unknownType => 0x10
  | .short => 0x11
  | .badValue => 0x12
  | .notMaster => 0x20
  | .held => 0x21
  | .early => 0x22
  | .wrongState => 0x30
  | .notFound => 0x31
  | .noSeat => 0x40
  | .budget => 0x41
  | .tableFull => 0x42
  | .tooLarge => 0x43
  | .duplicate => 0x44
  | .stale => 0x50
  | .busy => 0x60
  | .invalidCert => 0x61
  | .storeFault => 0x62
  | .noTransaction => 0x70

/-- Subject kinds (section 12.6). -/
def SubjectKind.code : SubjectKind → Nat
  | .channel => 1
  | .reference => 2
  | .fan => 3
  | .tray => 4
  | .bay => 5
  | .slot => 6
  | .port => 7
  | .cert => 8
  | .store => 9
  | .tier => 10
  | .link => 11
  | .chassis => 12

def itemBytes (is : List Item) : List Byte := is.flatMap fun i => beBytes i.size i.val

/-- The 26 bytes of a last event, from offset 2 of section 12.6; an absent one has kind 0xFF and the rest 0 (entry 11). -/
def eventItems : Option Event → List Item
  | none => [⟨1, 0xFF⟩, ⟨4, 0⟩, ⟨1, 0⟩, ⟨4, 0⟩, ⟨4, 0⟩, ⟨4, 0⟩, ⟨4, 0⟩, ⟨4, 0⟩]
  | some e =>
    [⟨1, e.kind.code⟩, ⟨4, e.index⟩, ⟨1, e.code⟩] ++
      ((e.details ++ [0, 0, 0, 0]).take 4).map (fun v => ⟨4, twos 4 v⟩) ++ [⟨4, e.uptime⟩]

/-- A reply as a frame: REPLY set, the request's tag (R186), the status byte first (section 12.3). -/
def Reply.frame (r : Reply) : Frame :=
  ⟨r.ty, r.tag, 0x02#8, beBytes 1 r.status.code ++ itemBytes r.items⟩

/-- An ALERT NOTICE as a frame (R186, section 12.6). -/
def Notice.frame (n : Notice) : Frame :=
  ⟨0xF0#8, 0#8, 0x04#8, itemBytes ([⟨1, n.cls.val⟩, ⟨1, n.count⟩] ++ eventItems n.event)⟩

/-- The frame a management link's transmitter sends. -/
def OutFrame.frame : OutFrame → Frame
  | .reply r => r.frame
  | .notice n => n.frame

/-- A PERMISSION UPDATE as a frame: no flags, the low byte of the generation as tag (R186, section 12.7). -/
def PermUpdate.frame (u : PermUpdate) : Frame :=
  ⟨0xE0#8, BitVec.ofNat 8 u.gen, 0#8, beBytes 4 u.gen ++ u.rows.flatMap fun r => beBytes 8 r.toNat⟩

/-- What a good slot-link frame is to the part (R187, section 12.7). -/
inductive SlotFrame where
  /-- eight pairs: absent, or an optic class -/
  | status (optics : Vector (Option (Fin 4)) 8)
  | ack (gen : Nat)
  /-- a type the link does not use, or a void frame -/
  | other
  deriving DecidableEq, Repr

/-- A SLOT STATUS byte: 0x00 absent, 0x80 + class present (section 12.7); any other is undefined. -/
def opticOf (b : Byte) : Option (Option (Fin 4)) :=
  if b = 0 then some none
  else if h : 0x80 ≤ b.toNat ∧ b.toNat < 0x84 then some (some ⟨b.toNat - 0x80, by omega⟩)
  else none

/-- What a good slot-link frame is: a short body or an undefined byte voids it, bytes beyond are ignored (R187). -/
def slotFrameOf (f : Frame) : SlotFrame :=
  if f.ty = 0xE2#8 then
    if f.body.length < 8 then .other
    else if ((f.body.take 8).all fun b => (opticOf b).isSome) then
      .status (Vector.ofFn fun i => ((f.body[i.val]?).bind opticOf).join)
    else .other
  else if f.ty = 0xE1#8 then
    if f.body.length < 4 then .other else .ack (beNat (f.body.take 4))
  else .other

end Sys2Proof.Machine
end

