-- ==== Sys2Proof/Machine/Operands.lean ====
section
/-! DEFINITION. The operands of requests: the fields of a body (R188), the encodings of identifiers and enumerations (section
12.2, R187), the clamping of settings (R171), the condition block (R162, section 12.3), which types may carry one and which are
open to either link (R172); and the fields of replies. -/

namespace Sys2Proof.Machine

/-! ## Fields of a request body -/

/-- An unsigned field of `n` bytes at offset `off`. -/
def ufld (b : List Byte) (off n : Nat) : Nat := beNat ((b.drop off).take n)

/-- A two-byte temperature: two's complement (section 12.2). -/
def tfld (b : List Byte) (off : Nat) : Int :=
  let v := ufld b off 2
  if v < 32768 then (v : Int) else (v : Int) - 65536

/-- A setting clamped to the nearest end of its range (R171). -/
def clampN (lo hi v : Nat) : Nat := if v < lo then lo else if hi < v then hi else v

/-- A signed setting clamped to the nearest end of its range (R171). -/
def clampI (lo hi v : Int) : Int := if v < lo then lo else if hi < v then hi else v

/-- CLAMPED when a value held differs from the request's, OK otherwise (R171). -/
def clampStatus (clamped : Bool) : Status := if clamped then .clamped else .ok

/-- The number `v` as one of `n` identifiers, or none when it is out of range. -/
def idOf (n v : Nat) : Option (Fin n) := if h : v < n then some ⟨v, h⟩ else none

/-- A yes-or-no, on-or-off value (R187). -/
def yesNoOf (v : Nat) : Option Bool := if v = 0 then some false else if v = 1 then some true else none

/-- A measurement channel (section 12.2): C0 to C7 as 0 to 7, T0 to T15 as 16 to 31. -/
inductive Chan where
  | c (s : SlotNo)
  | t (i : Fin 16)
  deriving DecidableEq, Repr

/-- The channel a number names; a reference channel has no number (R14). -/
def chanOf (v : Nat) : Option Chan :=
  if h : v < 8 then some (.c ⟨v, h⟩)
  else if h : 16 ≤ v ∧ v < 32 then some (.t ⟨v - 16, by omega⟩)
  else none

/-- The temperature channel a number names (R16, R31). -/
def tempOf (v : Nat) : Option (Fin 16) :=
  if h : 16 ≤ v ∧ v < 32 then some ⟨v - 16, by omega⟩ else none

def groupModeOf (v : Nat) : Option GroupMode := if v = 0 then some .auto else if v = 1 then some .manual else none

def redundancyOf (v : Nat) : Option Redundancy :=
  if v = 0 then some .none else if v = 1 then some .nPlus1 else if v = 2 then some .grid else .none

def tierOf (v : Nat) : Option Tier := if v = 0 then some .base else if v = 1 then some .high else none

def accessOf (v : Nat) : Option AccessMode := if v = 0 then some .isolate else if v = 1 then some .opened else none

def kindOf (v : Nat) : Option RecKind :=
  if v = 0 then some .port else if v = 1 then some .slot else if v = 2 then some .supply else if v = 3 then some .cert
  else if v = 4 then some .node else if v = 5 then some .zone else if v = 6 then some .zoneset else none

/-- A zone member of 9 bytes (R188): PORT 1 with a port number, NODE 2 with a nonzero identifier; none for any other. -/
def memberOf (b : List Byte) : Option Member :=
  let kind := ufld b 0 1
  let v := ufld b 1 8
  if kind = 1 then (idOf 64 v).map .port
  else if kind = 2 then if v = 0 then none else some (.node v)
  else none

/-- The members of a ZONE PUT part, from offset 5 (R188); none when one of them is undefined (R128). -/
def membersOf (b : List Byte) (count : Nat) : Option (List Member) :=
  (List.range count).mapM fun i => memberOf ((b.drop (5 + 9 * i)).take 9)

/-! ## Type codes (section 12.4) -/

/-- The codes that name a management-link request (R171): the slot-link frames and ALERT NOTICE are none. -/
def requestTypes : List Byte :=
  [0x01, 0x02, 0x03, 0x04, 0x05, 0x06, 0x07, 0x08, 0x09,
   0x10, 0x11, 0x12, 0x13, 0x18, 0x19, 0x1A, 0x1B, 0x20, 0x21, 0x22, 0x23,
   0x28, 0x29, 0x2A, 0x2B, 0x2C, 0x30, 0x31, 0x32, 0x33, 0x34, 0x38, 0x39, 0x3A, 0x3B,
   0x40, 0x41, 0x42, 0x43, 0x44, 0x45, 0x46, 0x47, 0x48, 0x49, 0x50, 0x58, 0x59, 0x5A, 0x60, 0x61, 0x62]

/-- The nine requests that may carry a condition block (section 9.3). -/
def condTypes : List Byte := [0x29, 0x2A, 0x31, 0x32, 0x33, 0x39, 0x45, 0x47, 0x48]

/-- How many bytes the request's own fields need (R188), counting the members or ids its own count names. Of WATCH RELEASE only a
list has its ids counted, so that an undefined selection needs two bytes (entry 30). -/
def ownNeed (ty : Byte) (b : List Byte) : Nat :=
  match ty.toNat with
  | 0x02 => 1
  | 0x07 => 4
  | 0x08 => 1
  | 0x10 => 1
  | 0x11 => 3
  | 0x12 => 8
  | 0x13 => 1
  | 0x18 => 5
  | 0x19 => 13
  | 0x1A => 3
  | 0x1B => 1
  | 0x20 => 3
  | 0x21 => 1
  | 0x22 => 4
  | 0x28 => 10
  | 0x29 => 1
  | 0x2A => 1
  | 0x2B => 1
  | 0x2C => 1
  | 0x30 => 3
  | 0x31 => 1
  | 0x32 => 1
  | 0x33 => 1
  | 0x34 => 2
  | 0x38 => 34
  | 0x39 => 4
  | 0x3A => 2
  | 0x3B => 2
  | 0x41 => if b.length < 5 then 5 else 5 + 9 * ufld b 4 1
  | 0x42 => 2
  | 0x43 => 1
  | 0x46 => 5
  | 0x47 => 9
  | 0x48 => 8
  | 0x49 => 9
  | 0x50 => 2
  | 0x58 => 9
  | 0x59 => if b.length < 2 then 2 else if ufld b 0 1 = 1 then 2 + ufld b 1 1 else 2
  | 0x60 => 1
  | 0x61 => 1
  | 0x62 => 2
  | _ => 0

/-- The requests open to either link (R172); REFERENCE STATUS only with an empty clear selection, RESET CAUSE READ only
without a clear. -/
def openToEither (ty : Byte) (b : List Byte) : Bool :=
  [0x10, 0x1B, 0x23, 0x2C, 0x34, 0x3A, 0x46, 0x49, 0x50, 0x60, 0x58, 0x59, 0x5A, 0x01, 0x08, 0x03, 0x05, 0x06].contains
      ty.toNat ||
    (ty = 0x13#8 && ufld b 0 1 = 0) || (ty = 0x02#8 && ufld b 0 1 = 0)

/-- The condition block of a frame and the request's own fields; none when the body is too short for the block (R171). -/
def Frame.split (f : Frame) : Option (List Byte × List Byte) :=
  if f.hasCond then
    match f.body with
    | [] => none
    | n :: _ =>
      if f.body.length < 2 + n.toNat then none
      else some (f.body.take (2 + n.toNat), f.body.drop (2 + n.toNat))
  else some ([], f.body)

/-- A condition block of the form R162 requires: 1 to 4 ids, none 0, none twice, mode KEEP 0 or CONSUME 1. -/
def blockOf (blk : List Byte) : Option Cond :=
  let n := ufld blk 0 1
  let ids := (blk.drop 2).map (·.toNat)
  if 1 ≤ n ∧ n ≤ 4 ∧ 0 ∉ ids ∧ ids.Nodup then (yesNoOf (ufld blk 1 1)).map fun m => ⟨ids, m⟩ else none

/-! ## Fields of a reply (section 12.2, R187; entry 11 where chapter 12 gives no size) -/

def u8 (v : Nat) : Item := ⟨1, v⟩
def u16 (v : Nat) : Item := ⟨2, v⟩
def u32 (v : Nat) : Item := ⟨4, v⟩
def u48 (v : Nat) : Item := ⟨6, v⟩
def u64 (v : Nat) : Item := ⟨8, v⟩

/-- A signed two-byte field: a temperature, the headroom. -/
def i16 (v : Int) : Item := ⟨2, twos 2 v⟩

def flag (b : Bool) : Item := ⟨1, if b then 1 else 0⟩

/-- A one-byte field that may hold no value (R187). -/
def opt8 : Option Nat → Item
  | none => ⟨1, 0xFF⟩
  | some v => ⟨1, v⟩

/-- A two-byte field whose range ends below 0xFFFF and that may hold no value (R187). -/
def opt16 : Option Nat → Item
  | none => ⟨2, 0xFFFF⟩
  | some v => ⟨2, v⟩

/-- The measured rpm (R187). -/
def opt32 : Option Nat → Item
  | none => ⟨4, 0xFFFFFFFF⟩
  | some v => ⟨4, v⟩

/-- A four-byte field whose whole range is used: a presence byte before it, and 0 where absent (R187). -/
def pres32 : Option Nat → List Item
  | none => [⟨1, 0⟩, ⟨4, 0⟩]
  | some v => [⟨1, 1⟩, ⟨4, v⟩]

/-- A temperature average or sample (R187). -/
def tempItem : Reading → Item
  | .absent => ⟨2, 0x7FFF⟩
  | .nar => ⟨2, 0x7FFE⟩
  | .value v => i16 v

/-- A current average or sample (R187). -/
def curItem : Reading → Item
  | .absent => ⟨2, 0xFFFF⟩
  | .nar => ⟨2, 0xFFFE⟩
  | .value v => ⟨2, v.toNat⟩

def Level.code : Level → Nat
  | .normal => 0
  | .warning => 1
  | .critical => 2
  | .shutdown => 3

def Health.code : Health → Nat
  | .active => 0
  | .failed => 1

def GroupMode.code : GroupMode → Nat
  | .auto => 0
  | .manual => 1

def FanState.code : FanState → Nat
  | .ok => 0
  | .slow => 1
  | .stopped => 2
  | .absent => 3

def SupplyState.code : SupplyState → Nat
  | .absent => 0
  | .starting => 1
  | .online => 2
  | .faulted => 3

def Redundancy.code : Redundancy → Nat
  | .none => 0
  | .nPlus1 => 1
  | .grid => 2

def SlotState.code : SlotState → Nat
  | .empty => 0
  | .off => 1
  | .queued => 2
  | .powering => 3
  | .powered => 4
  | .retryWait => 5
  | .lockedOut => 6

def SlotCause.code : SlotCause → Nat
  | .host => 0
  | .removed => 1
  | .budget => 2
  | .thermal => 3
  | .cooling => 4
  | .fault => 5
  | .lockout => 6

def FaultKind.code : FaultKind → Nat
  | .ramp => 0
  | .pgood => 1
  | .hotswap => 2
  | .overcurrent => 3

def PortState.code : PortState → Nat
  | .offline => 0
  | .active => 1
  | .shed => 2
  | .held => 3
  | .suspended => 4

def Seat.code : Seat → Nat
  | .none => 0
  | .base => 1
  | .high => 2
  | .borrowed => 3

def PortCause.code : PortCause → Nat
  | .host => 0
  | .optic => 1
  | .slotOff => 2
  | .slotLockout => 3
  | .license => 4

def AccessMode.code : AccessMode → Nat
  | .isolate => 0
  | .opened => 1

def StepState.code : StepState → Nat
  | .unpowered => 0
  | .sending => 1
  | .inStep => 2
  | .outOfStep => 3

def RecKind.code : RecKind → Nat
  | .port => 0
  | .slot => 1
  | .supply => 2
  | .cert => 3
  | .node => 4
  | .zone => 5
  | .zoneset => 6

/-- Tiers (R188, section 12.6). -/
def tierCode : Tier → Nat
  | .base => 0
  | .high => 1

/-- Links (section 12.6). -/
def linkCode : Link → Nat
  | .a => 0
  | .b => 1

/-- A temperature channel's number (section 12.2). -/
def tempCode (i : Fin 16) : Nat := 16 + i.val

def memberItems : Member → List Item
  | .port p => [u8 1, u64 p.val]
  | .node n => [u8 2, u64 n]

def optItem (o : Option (Fin 4)) : Item := opt8 (o.map (·.val))

end Sys2Proof.Machine
end

