-- ==== Sys2Proof/Machine/Flags.lean ====
section
/-! DEFINITION. The conditions and figures that the rules compute from the state: levels, budget figures, seat figures, link
health and roles, eligibility, and what makes a slot or a port fit for a request. -/

namespace Sys2Proof.Machine

/-- A table with entry `i` changed. -/
def modAt {α : Type} {n : Nat} (v : Vector α n) (i : Fin n) (f : α → α) : Vector α n := v.set i.val (f v[i.val]) i.isLt

/-! ## Numbering (00_scope.md) -/

/-- Port p is on slot floor(p/8). -/
def slotOf (p : PortNo) : SlotNo := ⟨p.val / 8, by omega⟩

/-- Slot s holds ports 8s to 8s+7. -/
def portAt (s : SlotNo) (i : Fin 8) : PortNo := ⟨8 * s.val + i.val, by omega⟩

def portsOf (s : SlotNo) : List PortNo := (List.finRange 8).map (portAt s)

/-- T(4+s) is the channel of slot s. -/
def tempOfSlot (s : SlotNo) : Fin 16 := ⟨4 + s.val, by omega⟩

/-! ## Accessors -/

def Dev.port (d : Dev) (p : PortNo) : PortRec := d.ptc.ports[p.val]
def Dev.slot (d : Dev) (s : SlotNo) : SlotRec := d.spc.slots[s.val]
def Dev.supply (d : Dev) (b : BayNo) : SupplyRec := d.pbu.supplies[b.val]
def Dev.step (d : Dev) (s : SlotNo) : StepRec := d.edu.steps[s.val]
def Dev.heldBase (d : Dev) (s : SlotNo) : Option Nat := d.pbu.heldBase[s.val]
def Dev.cls (d : Dev) (c : Fin 11) : ClassRec := d.atc.classes[c.val]
def Dev.level (d : Dev) (i : Fin 16) : Level := d.ssu.limits[i.val].level

def Dev.link (d : Dev) : Link → LinkRec
  | .a => d.mli.a
  | .b => d.mli.b

def Dev.tierRec (d : Dev) : Tier → TierRec
  | .base => d.lcu.base
  | .high => d.lcu.high

def other : Link → Link
  | .a => .b
  | .b => .a

/-! ## Temperature levels (section 1.6) -/

/-- The level is CRITICAL or above. -/
def Level.hot : Level → Bool
  | .critical => true
  | .shutdown => true
  | _ => false

/-- The slot's own channel stands at CRITICAL or SHUTDOWN. -/
def Dev.slotHot (d : Dev) (s : SlotNo) : Bool := (d.level (tempOfSlot s)).hot

/-- R11, Fall: the level drops while A < threshold(level) - hysteresis. -/
def LimitRec.fallFrom (t : LimitRec) (a : Int) : Level → Level
  | .normal => .normal
  | .warning => if a < t.warning - t.hyst then .normal else .warning
  | .critical =>
    if a < t.critical - t.hyst then if a < t.warning - t.hyst then .normal else .warning else .critical
  | .shutdown =>
    if a < t.shutdown - t.hyst then
      if a < t.critical - t.hyst then if a < t.warning - t.hyst then .normal else .warning else .critical
    else .shutdown

/-- The highest level above the present one whose threshold `a` reaches (R11, Rise). -/
def LimitRec.riseTo (t : LimitRec) (a : Int) : Option Level :=
  if t.level.code < 3 ∧ t.shutdown ≤ a then some .shutdown
  else if t.level.code < 2 ∧ t.critical ≤ a then some .critical
  else if t.level.code < 1 ∧ t.warning ≤ a then some .warning
  else none

/-- R11: the level after a window close that publishes `a`. -/
def LimitRec.judge (t : LimitRec) (a : Int) : Level := (t.riseTo a).getD (t.fallFrom a t.level)

/-! ## The budget figures (section 3.2) -/

/-- The port power of an optic class. -/
def classPower (c : Fin 4) : Nat :=
  match c.val with
  | 0 => 2
  | 1 => 4
  | 2 => 6
  | _ => 10

/-- The class power of a port's seated class (R83). -/
def PortRec.power (r : PortRec) : Nat := (r.seated.map classPower).getD 0

/-- Headroom, a signed figure (R42). -/
def Dev.headroom (d : Dev) : Int := (d.pbu.available : Int) - d.pbu.allocated

/-- The capacity a bay counts for: its capacity while ONLINE, else nothing (R38). -/
def onlineCap (p : Pbu) (b : BayNo) : Nat :=
  if p.supplies[b.val].state = .online then p.supplies[b.val].capacity else 0

def isOnline (p : Pbu) (b : BayNo) : Bool := p.supplies[b.val].state = .online

/-- R38: raw available and redundancy lost. -/
def rawAvailable (p : Pbu) : Nat × Bool :=
  let c := onlineCap p
  let sum := c 0 + c 1 + c 2 + c 3
  let n := (List.finRange 4).countP (isOnline p)
  match p.mode with
  | .none => (sum, false)
  | .nPlus1 => if 2 ≤ n then (sum - max (max (c 0) (c 1)) (max (c 2) (c 3)), false) else (sum, true)
  | .grid =>
    let gridA := isOnline p 0 || isOnline p 1
    let gridB := isOnline p 2 || isOnline p 3
    if gridA && gridB then (min (c 0 + c 1) (c 2 + c 3), false) else (sum, true)

/-- A valid inlet average: the channel enabled and its published average a value (R39). -/
def inletValue (r : ChanRec) : Option Int :=
  match r.enabled, r.published with
  | true, .value v => some v
  | _, _ => none

/-- R39: Tin is the greater of the valid inlet averages. -/
def Dev.tinOf (d : Dev) : Option Int :=
  match inletValue d.ssu.temp[0], inletValue d.ssu.temp[1] with
  | some x, some y => some (max x y)
  | some x, none => some x
  | none, y => y

/-- R39: the derate, in percent. -/
def derateOf : Option Int → Nat
  | none => 25
  | some t => if t ≤ 80 then 0 else if 105 ≤ t then 25 else (t - 80).toNat

def Pbu.heldSum (p : Pbu) : Nat := ((List.finRange 8).map fun s => (p.heldBase[s.val]).getD 0).sum

def Dev.portPowerSum (d : Dev) : Nat := ((List.finRange 64).map fun p => ((d.port p).admitted).getD 0).sum

/-- R41: allocated is the reserve, the held bases and the admitted port power. -/
def Dev.allocatedSum (d : Dev) : Nat := d.pbu.reserve + d.pbu.heldSum + d.portPowerSum

/-! ## Slots and ports -/

/-- The states in which a slot holds a base (R41) and in which a power-off acts on it (R71). -/
def SlotState.holdsBase : SlotState → Bool
  | .queued => true
  | .powering => true
  | .powered => true
  | .retryWait => true
  | _ => false

/-- R59, step 2: a hot slot, a hot inlet or outlet, or an absent tray refuses power-on. -/
def Dev.powerOnBarred (d : Dev) (s : SlotNo) : Bool :=
  d.slotHot s || [0, 1, 2, 3].any (fun i => d.level i = .shutdown) ||
    (List.finRange 3).any (fun t => !d.clc.trays[t.val].present)

/-- No slot is POWERING (R60). -/
def Dev.noneRamping (d : Dev) : Bool := (List.finRange 8).all fun s => (d.slot s).state ≠ .powering

/-- The place of an element in a list, counted from 1. -/
def placeIn {α : Type} [DecidableEq α] (x : α) : List α → Option Nat
  | [] => none
  | y :: ys => if x = y then some 1 else (placeIn x ys).map (· + 1)

/-- The ports that meet a test, lowest priority first and highest number first within a priority: the order of shedding
(R46) and of each group of a reclaim (R119). -/
def Dev.inOrder (d : Dev) (f : PortRec → Bool) : List PortNo :=
  [(0 : Fin 4), 1, 2, 3].flatMap fun pr =>
    (List.finRange 64).reverse.filter fun p => decide ((d.port p).priority = pr) && f (d.port p)

/-! ## Seats (section 6.6) -/

/-- The tier a seat counts under: a borrowed seat counts under HIGH (section 6.6.1). -/
def seatTier : Seat → Option Tier
  | .none => none
  | .base => some .base
  | .high => some .high
  | .borrowed => some .high

/-- Free seats of a tier. -/
def TierRec.free (t : TierRec) : Nat := t.total - t.held

/-- Shortfall of a tier. -/
def TierRec.shortfall (t : TierRec) : Nat := t.held - t.total

def Grace.isRunning : Grace → Bool
  | .idle => false
  | .running _ => true

/-- The seats of the VALID certificates of a tier, at most 64 (section 6.6.1). -/
def totalOf (table : Vector (Option CertEntry) 16) (t : Tier) : Nat :=
  min 64 (((List.finRange 16).map fun i =>
    match table[i.val] with
    | some e => if e.expired = false ∧ e.data.tier = t then e.data.seats else 0
    | none => 0).sum)

/-- R114: the seat a port of the tier would take. -/
def Dev.seatChoice (d : Dev) : Tier → Option Seat
  | .base =>
    if d.lcu.base.grace.isRunning then none
    else if 0 < d.lcu.base.free then some .base
    else if 0 < d.lcu.high.free ∧ d.lcu.high.grace.isRunning = false then some .borrowed
    else none
  | .high =>
    if d.lcu.high.grace.isRunning then none
    else if 0 < d.lcu.high.free then some .high
    else none

/-- The validation code the part's verifier computes (R105). -/
def CertData.verified (c : CertData) : Bool :=
  c.code = Config.validationCode c.id (tierCode c.tier) c.seats c.expiry c.serial

/-- The place of a certificate id in the table (R105). -/
def placeOfId (table : Vector (Option CertEntry) 16) (id : Nat) : Option (Fin 16) :=
  (List.finRange 16).find? fun i => (table[i.val]).any fun e => e.data.id = id

/-- The lowest-numbered free store slot (R105). -/
def freePlace (table : Vector (Option CertEntry) 16) : Option (Fin 16) :=
  (List.finRange 16).find? fun i => (table[i.val]).isNone

/-! ## Links and mastership (chapter 10) -/

/-- R168: the health state follows the error count. -/
def LinkRec.isDown (r : LinkRec) : Bool := 255 ≤ r.errs

/-- Health state code: HEALTHY 0, WARNING 1, DOWN 2 (R168, R187). -/
def LinkRec.healthCode (r : LinkRec) : Nat := if r.errs < 96 then 0 else if r.errs < 255 then 1 else 2

def Dev.down (d : Dev) (l : Link) : Bool := (d.link l).isDown

/-- A link's role: MASTER 0, STANDBY 1, NONE 2 (R174, R187). -/
def Dev.roleCode (d : Dev) (l : Link) : Nat :=
  if d.msa.master = some l then 0 else if (d.link l).standby then 1 else 2

/-- The link holds a role. -/
def Dev.hasRole (d : Dev) (l : Link) : Bool := d.msa.master = some l || (d.link l).standby

/-- A management line is held low (R166). -/
def Dev.lineLow (d : Dev) : Link → Bool
  | .a => d.lines.lowA
  | .b => d.lines.lowB

/-- Time remaining to a time, in milliseconds. -/
def Dev.left (d : Dev) (t : Option Nat) : Nat := t.getD 0 - d.now

/-! ## Eligibility (R143) -/

/-- The ports that meet a test, as a mask. -/
def maskOf (f : PortNo → Bool) : PortSet :=
  (List.finRange 64).foldl (fun m p => if f p then m ||| (1#64 <<< p.val) else m) 0#64

def inMask (m : PortSet) (p : PortNo) : Bool := m.getLsbD p.val

/-- R143, R154: ACTIVE, the slot's step SENDING or IN_STEP, and the slot not passive. -/
def Dev.isEligible (d : Dev) (p : PortNo) : Bool :=
  decide ((d.port p).state = .active) &&
    (decide ((d.step (slotOf p)).state = .sending) || decide ((d.step (slotOf p)).state = .inStep)) &&
    !(d.slot (slotOf p)).passive

/-! ## Zones (chapter 7) -/

/-- The port a member resolves to (R138). -/
def resolveMember (nodes : List NodeEntry) : Member → Option PortNo
  | .port p => some p
  | .node n => (nodes.find? fun e => e.node = n).map (·.port)

/-- A zone resolved to its port set (R138). -/
def resolveZone (nodes : List NodeEntry) (ms : List Member) : PortSet :=
  ms.foldl (fun m x => match resolveMember nodes x with | some p => m ||| (1#64 <<< p.val) | none => m) 0#64

/-- R138: one row of the reach matrix, from the resolved zones and the default access mode. -/
def reachRow (zones : List PortSet) (mode : AccessMode) (p : PortNo) : PortSet :=
  let zoned := zones.foldl (fun m z => if inMask z p then m ||| z else m) 0#64
  let free := ~~~ zones.foldl (· ||| ·) 0#64
  let all := if mode = .opened ∧ inMask free p then zoned ||| free else zoned
  all &&& ~~~ (1#64 <<< p.val)

/-- R138: the reach matrix of the active set and the attachment table. -/
def reachMatrix (z : Zne) : Vector PortSet 64 :=
  let zones := z.zones.map fun a => resolveZone z.nodes a.zone.members
  Vector.ofFn fun p => reachRow zones z.mode p

/-- A node appears in the active set (R137). -/
def Zne.names (z : Zne) (n : Nat) : Bool := z.zones.any fun a => a.zone.members.contains (.node n)

/-- Member entries of a set (R124). -/
def entriesOf (zs : List Zone) : Nat := (zs.map fun z => z.members.length).sum

/-- A zone put in its place by id, replacing a zone of the same id (R129). -/
def insertZone (z : Zone) : List Zone → List Zone
  | [] => [z]
  | y :: ys => if z.id < y.id then z :: y :: ys else if z.id = y.id then z :: ys else y :: insertZone z ys

/-- An attachment put in its place by node identifier, replacing one of the same node (section 7.3). -/
def insertNode (e : NodeEntry) : List NodeEntry → List NodeEntry
  | [] => [e]
  | y :: ys => if e.node < y.node then e :: y :: ys else if e.node = y.node then e :: ys else y :: insertNode e ys

/-! ## Watched records (section 9.1) -/

/-- The present stamp of a record, or none when it does not exist. -/
def Dev.recordStamp (d : Dev) (k : RecKind) (key : Nat) : Option Nat :=
  match k with
  | .port => (idOf 64 key).map fun p => (d.port p).stamp
  | .slot => (idOf 8 key).map fun s => (d.slot s).stamp
  | .supply => (idOf 4 key).map fun b => (d.supply b).stamp
  | .cert => ((placeOfId d.lcu.table key).bind fun i => d.lcu.table[i.val]).map (·.stamp)
  | .node => (d.zne.nodes.find? fun e => e.node = key).map (·.stamp)
  | .zone => (d.zne.zones.find? fun z => z.zone.id = key).map (·.stamp)
  | .zoneset => if key = 0 then some d.zne.stamp else none

/-- An entry is current: its record exists and carries the captured stamp (section 9.2). -/
def Dev.current (d : Dev) (w : Watch) : Bool := d.recordStamp w.kind w.key = some w.stamp

def Dev.watchesOf (d : Dev) (l : Link) : List Watch := d.wtb.entries.filter fun w => w.owner = l

end Sys2Proof.Machine
end

