-- ==== Sys2Proof/Machine/Ops.lean ====
section
/-! DEFINITION. The named operations over the records: the clock, change stamps, alert events, the booking of power, seats and
grace, node attachments, and the port state machine with what each port change tells its neighbours (R84 to R87). -/

namespace Sys2Proof.Machine

/-! ## Records -/

def Dev.modPort (p : PortNo) (f : PortRec → PortRec) (d : Dev) : Dev :=
  { d with ptc := { d.ptc with ports := modAt d.ptc.ports p f } }

def Dev.modSlot (s : SlotNo) (f : SlotRec → SlotRec) (d : Dev) : Dev :=
  { d with spc := { d.spc with slots := modAt d.spc.slots s f } }

def Dev.modSupply (b : BayNo) (f : SupplyRec → SupplyRec) (d : Dev) : Dev :=
  { d with pbu := { d.pbu with supplies := modAt d.pbu.supplies b f } }

def Dev.modStep (s : SlotNo) (f : StepRec → StepRec) (d : Dev) : Dev :=
  { d with edu := { d.edu with steps := modAt d.edu.steps s f } }

def Dev.modClass (c : Fin 11) (f : ClassRec → ClassRec) (d : Dev) : Dev :=
  { d with atc := { d.atc with classes := modAt d.atc.classes c f } }

def Dev.modTier (t : Tier) (f : TierRec → TierRec) (d : Dev) : Dev :=
  match t with
  | .base => { d with lcu := { d.lcu with base := f d.lcu.base } }
  | .high => { d with lcu := { d.lcu with high := f d.lcu.high } }

def Dev.modLink (l : Link) (f : LinkRec → LinkRec) (d : Dev) : Dev :=
  match l with
  | .a => { d with mli := { d.mli with a := f d.mli.a } }
  | .b => { d with mli := { d.mli with b := f d.mli.b } }

def Dev.setHeld (s : SlotNo) (h : Option Nat) (d : Dev) : Dev :=
  { d with pbu := { d.pbu with heldBase := modAt d.pbu.heldBase s fun _ => h } }

/-- The event calls for a restore pass at its end (R51). -/
def Dev.callRestore (d : Dev) : Dev := { d with work := { d.work with restore := true } }

/-- The event hands the EDU something to re-form the rows from (R144). -/
def Dev.callEdu (d : Dev) : Dev := { d with work := { d.work with edu := true } }

/-- The event made a slot QUEUED or ended a POWERING state (R60). -/
def Dev.callJudge (d : Dev) : Dev := { d with work := { d.work with judge := true } }

/-! ## Clock (entry 1) -/

/-- The clock moved on to a time that has come. -/
def Dev.passTo (t : Nat) (d : Dev) : Dev := { d with now := max d.now t }

/-! ## Change stamps (R157) -/

/-- The stamp after `n`: from 2^48 - 1 the counter goes to 1. -/
def nextStamp (n : Nat) : Nat := if n = 281474976710655 then 1 else n + 1

/-- The counter after one stamp is taken. -/
def Dev.useStamp (d : Dev) : Dev := { d with wtb := { d.wtb with next := nextStamp d.wtb.next } }

/-- R82: a port takes one stamp per event. -/
def Dev.stampPort (p : PortNo) (d : Dev) : Dev :=
  if p ∈ d.work.stampedPorts then d
  else
    let d1 := d.modPort p fun r => { r with stamp := d.wtb.next }
    { d1.useStamp with work := { d.work with stampedPorts := p :: d.work.stampedPorts } }

/-- R57: a slot takes one stamp per event. -/
def Dev.stampSlot (s : SlotNo) (d : Dev) : Dev :=
  if s ∈ d.work.stampedSlots then d
  else
    let d1 := d.modSlot s fun r => { r with stamp := d.wtb.next }
    { d1.useStamp with work := { d.work with stampedSlots := s :: d.work.stampedSlots } }

/-- R37: a change of a supply's state or capacity takes a stamp. -/
def Dev.stampSupply (b : BayNo) (d : Dev) : Dev :=
  (d.modSupply b fun r => { r with stamp := d.wtb.next }).useStamp

/-! ## Alert events (R180) -/

def clsShutdown : Fin 11 := 0
def clsCritical : Fin 11 := 1
def clsCooling : Fin 11 := 2
def clsPower : Fin 11 := 3
def clsSlot : Fin 11 := 4
def clsLicense : Fin 11 := 5
def clsEnforcement : Fin 11 := 6
def clsWarning : Fin 11 := 7
def clsSensor : Fin 11 := 8
def clsLink : Fin 11 := 9
def clsMastership : Fin 11 := 10

/-- R180: the count rises by 1 up to 255, the last event is replaced, unnoticed is set. -/
def ClassRec.record (e : Event) (r : ClassRec) : ClassRec :=
  { r with count := if r.count < 255 then r.count + 1 else r.count, last := some e, unnoticed := true }

/-- R180: an alert event reaches the ATC. -/
def Dev.raise (c : Fin 11) (k : SubjectKind) (index code : Nat) (details : List Int) (d : Dev) : Dev :=
  d.modClass c (ClassRec.record ⟨k, index, code, details, d.atc.uptime⟩)

/-! ## Booking of power (R41, R44, R48) -/

/-- Allocated becomes `n`; overcommit clears when it then stands at or below available (R48). -/
def Dev.book (n : Nat) (d : Dev) : Dev :=
  { d with pbu := { d.pbu with allocated := n, overcommit := d.pbu.overcommit && decide (d.pbu.available < n) } }

/-- R44, R45: admission of `w` watts. -/
def Dev.fits (d : Dev) (w : Nat) : Bool := d.pbu.allocated + w ≤ d.pbu.available

/-- The commitment that follows an admission or a restore. -/
def Dev.commit (w : Nat) (d : Dev) : Dev := d.book (d.pbu.allocated + w)

/-- A release of allocation; it calls for a restore pass (R51). -/
def Dev.release (w : Nat) (d : Dev) : Dev := (d.book (d.pbu.allocated - w)).callRestore

/-- The SPC releases a slot's held base (R41). -/
def Dev.releaseBase (s : SlotNo) (d : Dev) : Dev :=
  match d.heldBase s with
  | some w => (d.setHeld s none).release w
  | none => d

/-! ## Node attachments (R136, R137) -/

/-- The matrix is to be compiled when a touched node appears in the active set (R137). -/
def Dev.touchNode (n : Nat) (d : Dev) : Dev :=
  if d.zne.names n then { d with work := { d.work with compile := true } } else d

/-- R136: every attachment that names a port leaving ACTIVE is removed. -/
def Dev.detachPort (p : PortNo) (d : Dev) : Dev :=
  let gone := d.zne.nodes.filter fun e => e.port = p
  let d1 := { d with zne := { d.zne with nodes := d.zne.nodes.filter fun e => e.port ≠ p } }
  gone.foldl (fun d e => d.touchNode e.node) d1

/-! ## Seats and grace (chapter 6) -/

/-- R116, R99: one move of a borrower to a BASE seat. -/
def Dev.moveBorrower (p : PortNo) (d : Dev) : Dev :=
  let d1 := (d.modPort p fun r => { r with seat := .base }).stampPort p
  let d2 := { d1 with lcu := { d1.lcu with borrowers := d1.lcu.borrowers.erase p } }
  (d2.modTier .high fun t => { t with held := t.held - 1 }).modTier .base fun t => { t with held := t.held + 1 }

/-- R116: oldest borrowers move while BASE seats are free. -/
def Dev.rebalanceList : List PortNo → Dev → Dev
  | [], d => d
  | p :: ps, d => if d.lcu.base.free = 0 then d else Dev.rebalanceList ps (d.moveBorrower p)

def Dev.rebalance (d : Dev) : Dev := Dev.rebalanceList d.lcu.borrowers d

/-- R113: the totals recomputed from the VALID certificates. -/
def Dev.retotal (d : Dev) : Dev :=
  (d.modTier .base fun t => { t with total := totalOf d.lcu.table .base }).modTier .high
    fun t => { t with total := totalOf d.lcu.table .high }

def Dev.callReclaim (t : Tier) (d : Dev) : Dev :=
  match t with
  | .base => { d with work := { d.work with reclaimBase := true } }
  | .high => { d with work := { d.work with reclaimHigh := true } }

/-- R118: a tier's shortfall judged against its grace; a tier being reclaimed is skipped (R117). A deadline past 4294967295, where
the counter stops, is held as the sum stands and is never reached: the model's choice (entry 33). -/
def Dev.judgeGrace (t : Tier) (d : Dev) : Dev :=
  if d.work.reclaiming = some t then d
  else
    let r := d.tierRec t
    match r.grace with
    | .idle =>
      if r.shortfall = 0 then d
      else if d.lcu.graceLen = 0 then d.callReclaim t
      else
        let deadline := d.lcu.counter + d.lcu.graceLen
        (d.modTier t fun r => { r with grace := .running deadline }).raise clsLicense .tier (tierCode t) 0x57
          [r.shortfall, deadline]
    | .running _ =>
      if r.shortfall = 0 then
        (d.modTier t fun r => { r with grace := .idle }).raise clsLicense .tier (tierCode t) 0x58 []
      else d

/-- R117: a seat review. -/
def Dev.seatReview (d : Dev) : Dev := (d.retotal.rebalance.judgeGrace .base).judgeGrace .high

/-- R115: a seat taken at the commit of PORT ACTIVATE. -/
def Dev.seatTaken (p : PortNo) (seat : Seat) (d : Dev) : Dev :=
  let d1 := match seatTier seat with
    | some t => d.modTier t fun r => { r with held := r.held + 1 }
    | none => d
  if seat = .borrowed then { d1 with lcu := { d1.lcu with borrowers := d1.lcu.borrowers ++ [p] } } else d1

/-- R115: a seat released, and the review after it. -/
def Dev.seatReleased (p : PortNo) (seat : Seat) (d : Dev) : Dev :=
  let d1 := match seatTier seat with
    | some t => d.modTier t fun r => { r with held := r.held - 1 }
    | none => d
  let d2 := if seat = .borrowed then { d1 with lcu := { d1.lcu with borrowers := d1.lcu.borrowers.erase p } } else d1
  d2.seatReview

/-! ## The port state machine (section 5.2) -/

/-- What leaving the present state does to the port's claims (R83): the release of admitted power, the place in the restore
queue, and what the ZNE and the EDU are told (R86, R87). -/
def Dev.leaveState (p : PortNo) (old : PortRec) (d : Dev) : Dev :=
  match old.state with
  | .active => ((d.release (old.admitted.getD 0)).detachPort p).callEdu
  | .shed => { d with pbu := { d.pbu with restoreQ := d.pbu.restoreQ.erase p } }
  | _ => d

/-- A port made OFFLINE with a cause, from any state that holds a seat (R83, R85). -/
def Dev.offline (p : PortNo) (cause : PortCause) (d : Dev) : Dev :=
  let old := d.port p
  if old.state = .offline then d
  else
    let d1 := d.modPort p fun r =>
      { r with state := .offline, seat := .none, seated := none, admitted := none, cause := some cause }
    ((d1.stampPort p).leaveState p old).seatReleased p old.seat

/-- A port moved among the states that hold a seat but no power (R83). -/
def Dev.idlePort (p : PortNo) (st : PortState) (d : Dev) : Dev :=
  let old := d.port p
  let d1 := d.modPort p fun r => { r with state := st, admitted := none }
  (d1.stampPort p).leaveState p old

/-- A port made SHED: it joins the tail of the restore queue (R83). -/
def Dev.toShed (p : PortNo) (d : Dev) : Dev :=
  let d1 := d.idlePort p .shed
  { d1 with pbu := { d1.pbu with restoreQ := d1.pbu.restoreQ ++ [p] } }

/-- A port made ACTIVE with admitted power, from a state that holds a seat; the power is counted and the EDU told (R83, R87). -/
def Dev.toActive (p : PortNo) (d : Dev) : Dev :=
  let old := d.port p
  let w := old.power
  let d1 := d.modPort p fun r => { r with state := .active, admitted := some w }
  (((d1.stampPort p).leaveState p old).commit w).callEdu

/-- Ports made OFFLINE one at a time in the order given (R82). -/
def Dev.offlineAll (ps : List PortNo) (cause : PortCause) (d : Dev) : Dev := ps.foldl (fun d p => d.offline p cause) d

/-- The optic field set, with the port's stamp when it changes (R81, R88, R90). -/
def Dev.setOptic (p : PortNo) (o : Option (Fin 4)) (d : Dev) : Dev :=
  if (d.port p).optic = o then d else (d.modPort p fun r => { r with optic := o }).stampPort p

/-! ## Reclaim (R119) -/

/-- The tier's seat-holders in the order of R119's groups. -/
def Dev.reclaimOrder (d : Dev) (t : Tier) : List PortNo :=
  let holds (r : PortRec) : Bool := seatTier r.seat = some t
  d.inOrder (fun r => holds r && (r.state ≠ .active)) ++
    (if t = .high then d.inOrder (fun r => decide (r.seat = .borrowed) && decide (r.state = .active)) else []) ++
    d.inOrder (fun r => holds r && decide (r.seat ≠ .borrowed) && decide (r.state = .active))

/-- R119, R100: exactly the shortfall is taken back, port by port in list order, where R82 says ascending port number (entry 28);
then the grace is IDLE and one LICENSE event is raised. -/
def Dev.reclaim (t : Tier) (d : Dev) : Dev :=
  let n := (d.tierRec t).shortfall
  let d1 := { d with work := { d.work with reclaiming := some t } }
  let d2 := d1.offlineAll ((d.reclaimOrder t).take n) .license
  let d3 := { d2 with work := { d2.work with reclaiming := none } }
  (d3.modTier t fun r => { r with grace := .idle }).raise clsLicense .tier (tierCode t) 0x59 [n]

end Sys2Proof.Machine
end

