-- ==== Sys2Proof/Machine/SlotOps.lean ====
section
/-! DEFINITION. The shared operations on slots: leaving and entering POWERED, the start of a ramp (R60), a fault (R65), a
power-off (R71), a removal (R72), a hold at CRITICAL (R70), and the power-on queue. -/

namespace Sys2Proof.Machine

/-- A slot's enable line dropped and its timers stopped (R65 step 1, R71 step 1). -/
def Dev.cutPower (s : SlotNo) (d : Dev) : Dev :=
  let d1 := d.modSlot s fun r => { r with enable := false, ramp := none, retry := none, stable := none }
  let d2 := { d1 with spc := { d1.spc with queue := d1.spc.queue.erase s } }
  if (d.slot s).state = .powering then d2.callJudge else d2

/-- R153: the step record of a slot that left POWERED, and its slot link's transmitter. -/
def Dev.eduLeave (s : SlotNo) (d : Dev) : Dev :=
  let d1 := (d.modStep s fun _ => {}).modSlot s fun r => { r with tx := [] }
  { d1 with work := { d1.work with entered := d1.work.entered.erase s, edu := true } }

/-- R146: the step record of a slot that entered POWERED; its update is sent at the end of the event (R145). -/
def Dev.eduEnter (s : SlotNo) (d : Dev) : Dev :=
  let d1 := d.modStep s fun _ => { state := .sending }
  { d1 with work := { d1.work with entered := s :: d1.work.entered, edu := true } }

/-- The SPC's own part of leaving POWERED: health count 0, passive clear, the EDU told (R65 step 3, R71 step 5). -/
def Dev.leavePowered (s : SlotNo) (d : Dev) : Dev :=
  (d.modSlot s fun r => { r with health := 0, passive := false }).eduLeave s

/-- R90: the optic field of each of the slot's ports becomes absent. -/
def Dev.opticsAbsent (s : SlotNo) (d : Dev) : Dev := (portsOf s).foldl (fun d p => d.setOptic p none) d

/-- The slot's ports that hold a seat, made OFFLINE in ascending order (R71 step 4, R82). -/
def Dev.portsDown (s : SlotNo) (cause : PortCause) (d : Dev) : Dev := d.offlineAll (portsOf s) cause

/-- R65, step 2: ACTIVE and SHED ports become SUSPENDED. -/
def Dev.suspendPorts (s : SlotNo) (d : Dev) : Dev :=
  (portsOf s).foldl (fun d p =>
    if (d.port p).state = .active ∨ (d.port p).state = .shed then d.idlePort p .suspended else d) d

/-- R65: a fault of any kind, from POWERING or POWERED, as a part of the event that brings it: a fault at a publication or at a
ramp's start shares that event's stamps and its restore pass, the model's choice (entry 32). -/
def Dev.slotFault (s : SlotNo) (kind : FaultKind) (d : Dev) : Dev :=
  let wasPowered := decide ((d.slot s).state = .powered)
  let d1 := ((d.cutPower s).modSlot s fun r => { r with ocCount := 0 }).suspendPorts s
  let d2 := if wasPowered then d1.leavePowered s else d1.modSlot s fun r => { r with health := 0, passive := false }
  let r := d2.slot s
  let retries := r.retryEnable && decide (r.attempts < r.maxAttempts)
  let d3 :=
    if retries then
      (d2.modSlot s fun r => { r with
        state := .retryWait, cause := some .fault, attempts := r.attempts + 1,
        retry := some (d.now + 1000 * r.retryDelay) }).stampSlot s
    else
      let d4 := (d2.modSlot s fun r => { r with state := .lockedOut, cause := some .lockout }).stampSlot s
      (d4.releaseBase s).portsDown s .slotLockout
  let d5 := if wasPowered then d3.opticsAbsent s else d3
  d5.raise clsSlot .slot s.val 0x41 [kind.code, (d5.slot s).attempts, if retries then 0 else 1]

/-- Steps 1 and 3 to 6 of R71, from a state that holds a base; the base is released and the ports go OFFLINE. -/
def Dev.slotDown (s : SlotNo) (d : Dev) : Dev :=
  let wasPowered := decide ((d.slot s).state = .powered)
  let d1 := ((d.cutPower s).releaseBase s).portsDown s .slotOff
  if wasPowered then (d1.leavePowered s).opticsAbsent s else d1

/-- R71: a slot power-off with a stated cause; other states are left as they are. -/
def Dev.powerOff (s : SlotNo) (cause : SlotCause) (d : Dev) : Dev :=
  if (d.slot s).state.holdsBase then
    let wasPowered := decide ((d.slot s).state = .powered)
    let d1 := ((d.cutPower s).modSlot s fun r => { r with
      state := .off, cause := some cause, attempts := 0 }).stampSlot s
    let d2 := (d1.releaseBase s).portsDown s .slotOff
    if wasPowered then (d2.leavePowered s).opticsAbsent s else d2
  else d

/-- R72: a removal, from any state but EMPTY. -/
def Dev.removeSlot (s : SlotNo) (d : Dev) : Dev :=
  let was := (d.slot s).state
  if was = .empty then d
  else
    let d1 := if was.holdsBase then d.slotDown s else d
    ((d1.modSlot s fun r => { r with state := .empty, present := false, cause := some .removed, attempts := 0 }).stampSlot
      s).raise clsSlot .slot s.val 0x42 [was.code]

/-- R61: a POWERING slot whose power-good is high becomes POWERED. -/
def Dev.enterPowered (s : SlotNo) (d : Dev) : Dev :=
  ((d.modSlot s fun r => { r with
    state := .powered, ramp := none, stable := some d.now, ocCount := 0, statusSeen := false }).stampSlot
      s).eduEnter s |>.callJudge

/-- R60: the head slot becomes POWERING; a hot-swap fault already asserted is taken, else a power-good already high
(entry 17). The fault is a part of the event in which the ramp starts, the model's choice (entry 32). -/
def Dev.startRamp (s : SlotNo) (d : Dev) : Dev :=
  let d1 := { d with spc := { d.spc with queue := d.spc.queue.erase s } }
  let d2 := (d1.modSlot s fun r => { r with
    state := .powering, enable := true, ramp := some (d.now + 500), ocCount := 0, statusSeen := false }).stampSlot s
  if d.lines.hotSwap[s.val] then d2.slotFault s .hotswap
  else if d.lines.slotPowerGood[s.val] then d2.enterPowered s
  else d2

/-- R60, for the slots of the queue in turn: a slot starts its ramp when no slot is POWERING. -/
def Dev.rampList : List SlotNo → Dev → Dev
  | [], d => d
  | s :: ss, d => if d.noneRamping then Dev.rampList ss (d.startRamp s) else d

/-- R60: the power-on queue judged. -/
def Dev.judgeQueue (d : Dev) : Dev := Dev.rampList d.spc.queue d

/-- A slot becomes QUEUED at the tail of the power-on queue (R58). -/
def Dev.enqueue (s : SlotNo) (d : Dev) : Dev :=
  ((({ d with spc := { d.spc with queue := d.spc.queue ++ [s] } }).modSlot s fun r => { r with
    state := .queued, retry := none }).stampSlot s).callJudge

/-- R70: every ACTIVE port of the slot is made HELD, and stays so until it is resumed or goes OFFLINE (R97). -/
def Dev.holdPorts (s : SlotNo) (d : Dev) : Dev :=
  (portsOf s).foldl (fun d p => if (d.port p).state = .active then d.idlePort p .held else d) d

/-- Every slot powered off with a cause, in ascending number (R70, R73). -/
def Dev.powerOffAll (cause : SlotCause) (d : Dev) : Dev :=
  (List.finRange 8).foldl (fun d s => d.powerOff s cause) d

end Sys2Proof.Machine
end

