-- ==== Sys2Proof/Machine/BudgetOps.lean ====
section
/-! DEFINITION. The budget evaluation (R42), shedding (R46 to R48), the restore pass (R50), the compile of the reach matrix
(R139), the re-forming of the enforcement rows and the updates that follow (R144, R145, R147), and the end of an event. -/

namespace Sys2Proof.Machine

/-! ## Shedding -/

/-- R46: one port shed, with its POWER event. -/
def Dev.shedPort (p : PortNo) (d : Dev) : Dev :=
  let r := d.port p
  let d1 := (d.toShed p).raise clsPower .port p.val 0x33 [(r.priority.val : Int), r.admitted.getD 0]
  { d1 with work := { d1.work with shed := true } }

/-- R47: one slot shed, with its POWER event. -/
def Dev.shedSlot (s : SlotNo) (d : Dev) : Dev :=
  let base := (d.heldBase s).getD 0
  let d1 := (d.powerOff s .budget).raise clsPower .slot s.val 0x34 [base]
  { d1 with work := { d1.work with shed := true } }

/-- Allocated exceeds available. -/
def Dev.over (d : Dev) : Bool := d.pbu.available < d.pbu.allocated

/-- R46: ports are shed in order while allocated exceeds available. -/
def Dev.shedPorts (ps : List PortNo) (d : Dev) : Dev :=
  ps.foldl (fun d p => if d.over && decide ((d.port p).state = .active) then d.shedPort p else d) d

/-- R47: unprotected slots that hold a base are shed while allocated exceeds available. -/
def Dev.shedSlots (ss : List SlotNo) (d : Dev) : Dev :=
  ss.foldl (fun d s =>
    if d.over && (d.slot s).state.holdsBase && (d.heldBase s).isSome && !(d.slot s).prot then d.shedSlot s else d) d

/-- R48: overcommit set on entry, with its POWER event; a CHASSIS subject's index is 0 (entry 11). -/
def Dev.enterOvercommit (d : Dev) : Dev :=
  if d.over && !d.pbu.overcommit then
    ({ d with pbu := { d.pbu with overcommit := true } }).raise clsPower .chassis 0 0x35
      [d.pbu.allocated, d.pbu.available]
  else d

/-- Section 3.4: ports first, then slots, then overcommit. -/
def Dev.shed (d : Dev) : Dev :=
  ((d.shedPorts (d.inOrder fun r => decide (r.state = .active))).shedSlots (List.finRange 8).reverse).enterOvercommit

/-! ## The restore pass -/

/-- R50: from the head of the queue, a port on a hot slot becomes HELD, a port that fits with margin becomes ACTIVE, and the
first that does not fit stops the pass. -/
def Dev.restoreList : List PortNo → Dev → Dev
  | [], d => d
  | p :: ps, d =>
    if d.slotHot (slotOf p) then Dev.restoreList ps (d.idlePort p .held)
    else if ((d.port p).power : Int) + d.pbu.margin ≤ d.headroom then Dev.restoreList ps (d.toActive p)
    else d

/-! ## The budget evaluation -/

/-- R38: raw available and redundancy lost, with the POWER event of a change; a CHASSIS subject's index is 0 (entry 11). -/
def Dev.figureRaw (d : Dev) : Dev :=
  let (raw, lost) := rawAvailable d.pbu
  let d1 := { d with pbu := { d.pbu with raw := raw, redLost := lost } }
  if lost = d.pbu.redLost then d1
  else d1.raise clsPower .chassis 0 0x32 [d.pbu.mode.code, if lost then 1 else 0]

/-- R39 to R41: Tin, derate, available and allocated. -/
def Dev.figureRest (d : Dev) : Dev :=
  let tin := d.tinOf
  let derate := derateOf tin
  { d with pbu := { d.pbu with
      tin := tin, derate := derate, available := d.pbu.raw * (100 - derate) / 100, allocated := d.allocatedSum } }

/-- R42: a budget evaluation; it sheds, or else clears overcommit and restores from the queue as it stands now, so that what
follows in the event acts on the ports and the queue it left. -/
def Dev.evaluate (d : Dev) : Dev :=
  let d1 := d.figureRaw.figureRest
  if d1.over then d1.shed
  else Dev.restoreList d1.pbu.restoreQ { d1 with pbu := { d1.pbu with overcommit := false } }

/-! ## The end of an event -/

/-- R51: the pass that releases and lowered reserves call for runs once, at the end of the event, unless the PBU shed in the
event. An evaluation's own pass ends the evaluation (R42). -/
def Dev.restorePass (d : Dev) : Dev :=
  if d.work.restore && !d.work.shed then Dev.restoreList d.pbu.restoreQ d else d

/-- Reclaims called for by a seat review or a grace's deadline (R119), each tier's by itself; BASE before HIGH, which R120 leaves
open (entry 27). -/
def Dev.runReclaims (d : Dev) : Dev :=
  let d1 := if d.work.reclaimBase then d.reclaim .base else d
  if d.work.reclaimHigh then d1.reclaim .high else d1

/-- R139: the matrix compiled and handed to the EDU. -/
def Dev.compile (d : Dev) : Dev :=
  if d.work.compile then
    ({ d with perm := { d.perm with reach := reachMatrix d.zne } }).callEdu
  else d

/-- The generation after `g`: from 2^32 - 1 it wraps to 1 (R144, R133). -/
def nextGen (g : Nat) : Nat := if g = 4294967295 then 1 else g + 1

/-- R144: the rows formed from the matrix and an eligible set. -/
def formRows (reach : Vector PortSet 64) (eligible : PortSet) : Vector PortSet 64 :=
  Vector.ofFn fun p => if inMask eligible p then reach[p.val] &&& eligible else 0

/-- R147: a new generation marks every SENDING slot dirty. -/
def Dev.markDirty (d : Dev) : Dev :=
  (List.finRange 8).foldl (fun d s =>
    if (d.step s).state = .sending then d.modStep s fun r => { r with dirty := true } else d) d

/-- R144: the rows re-formed; when any row differs the generation goes up by 1. -/
def Dev.reform (d : Dev) : Dev :=
  let eligible := maskOf d.isEligible
  let rows := formRows d.perm.reach eligible
  if rows = d.perm.rows then { d with perm := { d.perm with eligible := eligible } }
  else
    ({ d with perm := { d.perm with eligible := eligible, rows := rows, gen := nextGen d.perm.gen } }).markDirty

/-- The PERMISSION UPDATE of the current generation and the slot's rows (R145). -/
def Dev.updateFor (d : Dev) (s : SlotNo) : PermUpdate :=
  ⟨d.perm.gen, (portsOf s).map fun p => d.perm.rows[p.val]⟩

/-- R145: an update sent; the response timer starts when its last byte has left. -/
def Dev.sendUpdate (s : SlotNo) (d : Dev) : Dev :=
  (d.modStep s fun r => { r with
    sent := some d.perm.gen, dirty := false, state := .sending, resend := none, response := none }).modSlot s
      fun r => { r with tx := r.tx ++ [d.updateFor s] }

/-- R145: the slots that are to be sent an update at the end of the event. -/
def Dev.wantsUpdate (d : Dev) (s : SlotNo) : Bool :=
  d.work.entered.contains s ||
    decide ((d.step s).state = .inStep) && (decide ((d.step s).acked ≠ some d.perm.gen) || (d.step s).dirty)

def Dev.sendUpdates (d : Dev) : Dev :=
  (List.finRange 8).foldl (fun d s => if d.wantsUpdate s then d.sendUpdate s else d) d

/-- R144, R145: the EDU's part of the end of an event. -/
def Dev.distribute (d : Dev) : Dev := if d.work.edu then d.reform.sendUpdates else d

/-- The end of an event (entry 8): the power-on queue, the reclaims, one restore pass, one compile, one re-forming. -/
def Dev.settle (d : Dev) : Dev :=
  let d1 := if d.work.judge then d.judgeQueue else d
  let d2 := d1.runReclaims.restorePass.compile.distribute
  { d2 with work := {} }

end Sys2Proof.Machine
end

