-- ==== Sys2Proof/Machine/LinkOps.lean ====
section
/-! DEFINITION. The License Store's writes (R103, R104, R109, R112), the resets (R178, R179, and each chapter's reset values),
link health (R168), mastership (R174 to R176), notices (R181, R182) and the transmitters (R173). -/

namespace Sys2Proof.Machine

/-! ## The License Store -/

/-- A counter save starts, with the counter's value as it stands (R104, R109). -/
def Dev.startSave (d : Dev) : Dev :=
  { d with lcu := { d.lcu with op := some (.save d.lcu.counter), savePending := false } }

/-- A counter save falls due (R104): started at once, merged into a repair, or held pending. -/
def Dev.saveDue (d : Dev) : Dev :=
  match d.lcu.op with
  | none => d.startSave
  | some (.mark _) => d
  | some (.repairCounter _) => d
  | some _ => { d with lcu := { d.lcu with savePending := true } }

/-- A write has completed: the store is idle, and a pending save starts in the same event (R104). -/
def Dev.storeDone (d : Dev) : Dev :=
  let d1 := { d with lcu := { d.lcu with op := none } }
  if d1.lcu.savePending then d1.startSave else d1

def Dev.writeCert (i : Fin 16) (r : StoreRec) (d : Dev) : Dev :=
  { d with store := { d.store with certs := modAt d.store.certs i fun _ => r } }

def Dev.writeCounter (n : Nat) (d : Dev) : Dev := { d with store := { d.store with counter := .whole n } }

def Dev.setCert (i : Fin 16) (e : Option CertEntry) (d : Dev) : Dev :=
  { d with lcu := { d.lcu with table := modAt d.lcu.table i fun _ => e } }

/-- A loaded certificate whose lapsed mark the repair is to set (R112). -/
def Dev.wantsMark (d : Dev) (i : Fin 16) : Bool :=
  match d.lcu.table[i.val], d.store.certs[i.val] with
  | some _, .whole c lapsed => decide (c.expiry ≠ 0) && !lapsed
  | _, _ => false

/-- R112: the next repair write from store slot `first` on: the next mark, or the counter record. -/
def Dev.nextRepair (first : Nat) (d : Dev) : Dev :=
  match (List.finRange 16).find? fun i => decide (first ≤ i.val) && d.wantsMark i with
  | some i => { d with lcu := { d.lcu with op := some (.mark i) } }
  | none => { d with lcu := { d.lcu with op := some (.repairCounter d.lcu.counter) } }

/-- R111, step 2 and 3, for one store slot. A torn slot stays torn in the store, and a record that fails both the serial and the code
is reported SERIAL (entry 29). -/
def Dev.loadCert (counterTorn : Bool) (d : Dev) (i : Fin 16) : Dev :=
  match d.store.certs[i.val] with
  | .nothing => d.setCert i none
  | .torn => (d.setCert i none).raise clsLicense .store i.val 0x54 []
  | .whole c lapsed =>
    if c.serial ≠ Config.chassisSerial then (d.setCert i none).raise clsLicense .store i.val 0x55 [2]
    else if c.verified = false then (d.setCert i none).raise clsLicense .store i.val 0x55 [3]
    else
      d.setCert i (some
        { data := c
          expired := lapsed || (decide (c.expiry ≠ 0) && (counterTorn || decide (c.expiry ≤ d.lcu.counter))) })

/-- R111, R112, R123: the load of the store at the end of a reset, and the start of the repair after a torn counter. The counter
record's event comes first and the store slots' events follow by ascending slot; among the slots R111 gives no order
(entry 27). -/
def Dev.loadStore (d : Dev) : Dev :=
  let (torn, d1) : Bool × Dev := match d.store.counter with
    | .whole n => (false, { d with lcu := { d.lcu with counter := n } })
    | _ => (true, ({ d with lcu := { d.lcu with counter := 0 } }).raise clsLicense .store 16 0x54 [])
  let d2 := ((List.finRange 16).foldl (Dev.loadCert torn) d1).retotal
  if torn then d2.nextRepair 0 else d2

/-- R103: a write cut off by a reset or a loss of power leaves its record torn. -/
def tearWrite (op : Option StoreOp) (st : Store) : Store :=
  match op with
  | none => st
  | some (.install i _ _) => { st with certs := modAt st.certs i fun _ => .torn }
  | some (.erase i _ _) => { st with certs := modAt st.certs i fun _ => .torn }
  | some (.mark i) => { st with certs := modAt st.certs i fun _ => .torn }
  | some (.save _) => { st with counter := .torn }
  | some (.repairCounter _) => { st with counter := .torn }

/-! ## Resets -/

/-- What begins a reset of the part and what it adds to the cause set and to the conditions in progress (R178). -/
inductive ResetKind where
  | power
  | dip
  | ext
  | command
  deriving DecidableEq, Repr

def Causes.add (k : ResetKind) (c : Causes) : Causes :=
  match k with
  | .power => { c with power := true }
  | .dip => { c with dip := true }
  | .ext => { c with ext := true }
  | .command => { c with command := true }

/-- The condition a reset kind keeps in progress, from the time it begins: 4 ms of supply, the line, 1 ms (R178). -/
def Hold.add (k : ResetKind) (now : Nat) (h : Hold) : Hold :=
  match k with
  | .power => { h with supply := some (now + 4) }
  | .dip => { h with supply := some (now + 4) }
  | .ext => { h with ext := true }
  | .command => { h with restart := some (now + 1) }

/-- A reset begins (R178): its cause is added; a store write in flight is torn (R103); every other block loses its state, so
that enable lines drop (R77), fan outputs stand at 100 percent (R28), the sweep is abandoned (R1), watches are removed (R165)
and the links neither take input nor transmit (R179). What was held before an overlapping reset is kept. -/
def Dev.beginReset (k : ResetKind) (d : Dev) : Dev :=
  { now := d.now
    lines := d.lines
    store := tearWrite d.lcu.op d.store
    causes := d.causes.add k
    hold := some (Hold.add k d.now (d.hold.getD {})) }

/-- A tray taken as absent (R21): its countdown starts and its fans become ABSENT, the lower-numbered first, an order that R21
leaves open (entry 27). -/
def Dev.trayOut (t : Fin 3) (d : Dev) : Dev :=
  let d1 := { d with clc := { d.clc with trays := modAt d.clc.trays t fun _ => ⟨false, .running (d.now + 120000)⟩ } }
  ((List.finRange 6).filter fun f => trayOf f = t).foldl (fun d f =>
    ({ d with clc := { d.clc with fans := modAt d.clc.fans f fun r =>
        { r with state := .absent, slowCount := 0, reentry := false } } }).raise clsCooling .fan f.val 0x23 []) d1

/-- R52: a supply's state and wait taken from the lines at the end of a reset. -/
def supplyFromLines (l : Lines) (now : Nat) (b : BayNo) : SupplyRec :=
  if l.supplyPresence[b.val] = false then {}
  else if l.supplyFault[b.val] then { state := .faulted }
  else { state := .starting, wait := if l.supplyPowerGood[b.val] then some (now + 2000) else none }

/-- R77: a slot's present field and state taken from the presence line at the end of a reset. -/
def slotFromLines (l : Lines) (s : SlotNo) : SlotRec :=
  if l.slotPresence[s.val] then { present := true, state := .off } else {}

/-- Every reset condition has ended (R178, R179): the reset values of every chapter, from the lines and the store; absent trays by
ascending number (R29, entry 27). -/
def Dev.endReset (d : Dev) : Dev :=
  let lines := { d.lines with externalReset := false }
  let base : Dev :=
    { lines := lines
      store := d.store
      causes := d.causes
      pbu := { supplies := Vector.ofFn (supplyFromLines lines 0) }
      spc := { slots := Vector.ofFn (slotFromLines lines) } }
  let d1 := base.loadStore
  let d2 := (List.finRange 3).foldl (fun d t => if lines.tray[t.val] then d else d.trayOut t) d1
  d2.evaluate

/-! ## Watch entries -/

def Dev.dropWatches (f : Watch → Bool) (d : Dev) : Dev :=
  { d with wtb := { d.wtb with entries := d.wtb.entries.filter fun w => !f w } }

/-- R165: every entry of a link is removed. -/
def Dev.dropLinkWatches (l : Link) (d : Dev) : Dev := d.dropWatches fun w => w.owner = l

/-! ## Mastership -/

/-- R126: an open transaction is discarded with its assembly. -/
def Dev.discardTransaction (d : Dev) : Dev := { d with zne := { d.zne with staged := none, assembly := none } }

/-- R182: a new master is to be told of every class with events. -/
def Dev.markUnnoticed (d : Dev) : Dev :=
  { d with atc := { d.atc with classes := Vector.ofFn fun c : Fin 11 =>
      if 0 < (d.cls c).count then { d.cls c with unnoticed := true } else d.cls c } }

/-- A link becomes master: any registration ends and its deadline is set (R174, R176). -/
def Dev.makeMaster (l : Link) (d : Dev) : Dev :=
  let d1 := d.modLink l fun r => { r with standby := false, deadline := some (d.now + d.msa.hmax), lastGood := none }
  ({ d1 with msa := { d1.msa with master := some l } }).discardTransaction.markUnnoticed

/-- R174: a grant of mastership. -/
def Dev.grant (l : Link) (d : Dev) : Dev := (d.makeMaster l).raise clsMastership .link (linkCode l) 0xA1 []

/-- A link's role ends. -/
def Dev.dropRole (l : Link) (d : Dev) : Dev :=
  d.modLink l fun r => { r with standby := false, deadline := none, lastGood := none }

/-- The causes with which mastership ends (R176). -/
inductive EndCause where
  | expiry
  | down
  | release
  deriving DecidableEq, Repr

def EndCause.code : EndCause → Nat
  | .expiry => 0
  | .down => 1
  | .release => 2

/-- R176: the master link loses mastership; a registered standby that is not DOWN succeeds. -/
def Dev.endMastership (l : Link) (cause : EndCause) (d : Dev) : Dev :=
  let d1 := d.dropRole l
  let o := other l
  if (d.link o).standby && !d.down o then
    (d1.makeMaster o).raise clsMastership .link (linkCode l) 0xA2 [cause.code, linkCode o]
  else
    (({ d1 with msa := { d1.msa with master := none } }).discardTransaction).raise clsMastership .link (linkCode l) 0xA2
      [cause.code, 0xFF]

/-- R176: a standby's registration lapses. -/
def Dev.lapse (l : Link) (d : Dev) : Dev := (d.dropRole l).raise clsMastership .link (linkCode l) 0xA3 []

/-! ## Link health -/

/-- The receive queue emptied; a request waiting for a store write stays in service (R167, R168, R170). -/
def LinkRec.emptyQueue (r : LinkRec) : LinkRec := { r with queue := if r.inService then r.queue.take 1 else [] }

/-- The OK reply of a SUPERVISOR RESTART (R178). -/
def Reply.isRestart (r : Reply) : Bool := decide (r.ty = 0x09#8) && decide (r.status = .ok)

/-- A reset waits for a reply of this link to leave: it stands in the reply place or is on the line (R178). -/
def LinkRec.restartDue (r : LinkRec) : Bool :=
  r.reply.any Reply.isRestart ||
    match r.tx with
    | some (.reply x) => x.isRestart
    | _ => false

/-- R168: the entry to DOWN. A restart whose reply was still to leave begins at once (R178). -/
def Dev.goDown (l : Link) (d : Dev) : Dev :=
  let d1 := d.raise clsLink .link (linkCode l) 0x92 []
  let d2 := (d1.modLink l fun r => { r.emptyQueue with reply := none, notice := none, tx := none }).dropLinkWatches l
  let d3 :=
    if d2.msa.master = some l then d2.endMastership l .down
    else if (d2.link l).standby then d2.lapse l
    else d2
  if (d.link l).restartDue then d3.beginReset .command else d3

/-- R166, R168: a bad frame; the receiver returns to IDLE. -/
def Dev.badFrame (l : Link) (d : Dev) : Dev :=
  let old := (d.link l).errs
  let new := min 255 (old + 8)
  let d1 := d.modLink l fun r => { r with errs := new, rx := .idle }
  if new = 255 then d1.goDown l
  else if old < 96 ∧ 96 ≤ new then d1.raise clsLink .link (linkCode l) 0x91 [new]
  else d1

/-- R168: a good frame lowers the count; R166: it is discarded, counted as an overrun, or queued. -/
def Dev.goodFrame (l : Link) (f : Frame) (d : Dev) : Dev :=
  d.modLink l fun r =>
    let r1 := { r with errs := r.errs - 1, rx := .idle }
    if f.notRequest then r1
    else if 2 ≤ r1.queue.length then { r1 with overrun := if r1.overrun < 255 then r1.overrun + 1 else r1.overrun }
    else { r1 with queue := r1.queue ++ [f] }

/-- The link takes input: it is not DOWN, not in a break, and its line is not held low (R166 to R168). -/
def Dev.takesInput (d : Dev) (l : Link) : Bool := !d.down l && decide ((d.link l).rx ≠ .brk) && !d.lineLow l

def Dev.setLineLow (l : Link) (v : Bool) (d : Dev) : Dev :=
  match l with
  | .a => { d with lines := { d.lines with lowA := v } }
  | .b => { d with lines := { d.lines with lowB := v } }

/-! ## Notices and transmitters -/

/-- R181: the target links of a notice. -/
def Dev.noticeTargets (d : Dev) : List Link :=
  match d.msa.master with
  | some l => [l]
  | none => [Link.a, Link.b].filter fun l => !d.down l

/-- R181: the class of highest priority that is unnoticed with notify enable on. -/
def Dev.noticeClass (d : Dev) : Option (Fin 11) :=
  (List.finRange 11).find? fun c => (d.cls c).unnoticed && (d.cls c).notify

/-- R181: when the places of all target links are empty, a notice is formed into each (entry 10: not when there is no
target link). -/
def Dev.formNotice (d : Dev) : Dev :=
  let ts := d.noticeTargets
  if !ts.isEmpty && ts.all (fun l => (d.link l).notice.isNone) then
    match d.noticeClass with
    | some c =>
      let n : Notice := ⟨c, (d.cls c).count, (d.cls c).last⟩
      (ts.foldl (fun d l => d.modLink l fun r => { r with notice := some n }) d).modClass c
        fun r => { r with unnoticed := false }
    | none => d
  else d

/-- R173: an idle transmitter starts the reply in the reply place, or else the notice; a DOWN link's stays idle. -/
def LinkRec.startTx (r : LinkRec) : LinkRec :=
  if r.isDown then r
  else
    match r.tx, r.reply, r.notice with
    | none, some x, _ => { r with tx := some (.reply x), reply := none }
    | none, none, some n => { r with tx := some (.notice n), notice := none }
    | _, _, _ => r

def Dev.startTxs (d : Dev) : Dev := (d.modLink .a LinkRec.startTx).modLink .b LinkRec.startTx

/-- Notices formed and transmitters started, and once more for the places that emptied (R181). -/
def Dev.pump (d : Dev) : Dev := d.formNotice.startTxs.formNotice.startTxs

/-- The end of an event, with the notices it leads to; a part held in reset forms none. -/
def Dev.finish (d : Dev) : Dev := if d.hold.isSome then d else d.settle.pump

end Sys2Proof.Machine
end

