-- ==== Sys2Proof/Machine/Serve.lean ====
section
/-! DEFINITION. The service of a request (R169 to R172): the frame at the head of a link's receive queue, the checks in R171's
order, the owner's part, the reply. And the shape of every other event. -/

namespace Sys2Proof.Machine

/-- An event of a part that runs: its effect, then the end of the event. A part held in reset acts on none. -/
def State.event (f : Dev → Dev) (s : State) : Host.Outcome State Fault Refusal :=
  .next (if s.dev.hold.isSome then s else { s with dev := (f s.dev).finish })

/-- An event of an input line: the level is the line's in any case; a part that runs acts on the change. -/
def State.lineEvent (line : Dev → Dev) (f : Dev → Dev) (s : State) : Host.Outcome State Fault Refusal :=
  .next (if s.dev.hold.isSome then { s with dev := line s.dev } else { s with dev := (f (line s.dev)).finish })

/-- What an owner answers: a status with the contents of the reply, formed from the state as the event leaves it, or a reply
to be formed when a store write completes (R170). -/
inductive Answer where
  | now (st : Status) (items : Dev → List Item)
  | later

/-- A refusal that carries nothing more than its code (section 12.3). -/
def refuse (st : Status) : Answer := .now st fun _ => []

/-- An owner's part of a request: its condition block and its own fields. -/
abbrev Owner := Option Cond → List Byte → Dev → Dev × Answer

/-- A refusal changes nothing. -/
def refused (d : Dev) (st : Status) : Dev × Answer := (d, refuse st)

/-- The reason a watch id of a condition block fails, or none when it passes (R163, section 12.3). -/
def Dev.watchFails (d : Dev) (l : Link) (id : Nat) : Option Nat :=
  match d.wtb.entries.find? fun w => decide (w.id = id) && decide (w.owner = l) with
  | none => some 1
  | some w =>
    match d.recordStamp w.kind w.key with
    | none => some 2
    | some st => if st = w.stamp then none else some 3

/-- R163, the watch check: the failing ids with their reasons. -/
def Dev.failing (d : Dev) (l : Link) (c : Cond) : List (Nat × Nat) :=
  c.ids.filterMap fun id => (d.watchFails l id).map fun r => (id, r)

/-- The entries of a link among the ids given are removed. -/
def Dev.dropIds (l : Link) (ids : List Nat) (d : Dev) : Dev :=
  d.dropWatches fun w => decide (w.owner = l) && ids.contains w.id

/-- R164: in CONSUME mode the block's entries are removed when the reply is OK. -/
def Dev.consume (l : Link) (c : Cond) (ok : Bool) (d : Dev) : Dev :=
  if c.consume && ok then d.dropIds l c.ids else d

/-- The owner's part, and CONSUME when its reply is OK (R164). -/
def runOwner (l : Link) (owner : Owner) (c : Option Cond) (b : List Byte) (d : Dev) : Dev × Answer :=
  match owner c b d, c with
  | (d1, .now .ok items), some c => (d1.consume l c true, .now .ok items)
  | r, _ => r

/-- R172: the master check. -/
def Dev.mayServe (d : Dev) (l : Link) (ty : Byte) (b : List Byte) : Bool := decide (d.msa.master = some l) || openToEither ty b

/-- The STALE refusal: the failing ids with their reasons; their entries are removed (R163, section 12.3). -/
def Dev.stale (l : Link) (fails : List (Nat × Nat)) (d : Dev) : Dev × Answer :=
  (d.dropIds l (fails.map (·.1)),
    .now .stale fun _ => u16 fails.length :: fails.flatMap fun f => [u8 f.1, u8 f.2])

/-- R171: the checks of a request of a known type, in order. -/
def judgeRequest (l : Link) (f : Frame) (owner : Owner) (d : Dev) : Dev × Answer :=
  match f.split with
  | none => refused d .short
  | some (blk, b) =>
    if b.length < ownNeed f.ty b then refused d .short
    else if f.hasCond then
      if condTypes.contains f.ty then
        match blockOf blk with
        | none => refused d .badValue
        | some c =>
          if d.mayServe l f.ty b then
            if (d.failing l c).isEmpty then runOwner l owner (some c) b d else d.stale l (d.failing l c)
          else refused d .notMaster
      else refused d .badValue
    else if d.mayServe l f.ty b then runOwner l owner none b d
    else refused d .notMaster

/-- The frame a link has to serve (R169): the head of its queue, with its reply place empty, not in service already. -/
def Dev.toServe (d : Dev) (l : Link) : Option Frame :=
  let r := d.link l
  if r.isDown || r.inService || r.reply.isSome then none else r.queue.head?

/-- The reply put in the reply place; the frame leaves the queue (R169). -/
def Dev.answer (l : Link) (f : Frame) (st : Status) (items : List Item) (d : Dev) : Dev :=
  d.modLink l fun r => { r with reply := some ⟨f.ty, f.tag, st, items⟩, queue := r.queue.tail, inService := false }

/-- The end of a service: the reply is formed from the state the event leaves, or the frame stays in service (R170). -/
def Dev.conclude (l : Link) (f : Frame) (a : Answer) (d : Dev) : Dev :=
  match a with
  | .now st items => (d.answer l f st (items d)).pump
  | .later => (d.modLink l fun r => { r with inService := true }).pump

/-- The service of the frame `f` of link `l` by an owner: one event (R169). -/
def Dev.serveFrame (l : Link) (f : Frame) (owner : Owner) (d : Dev) : Dev :=
  let r := judgeRequest l f owner d
  r.1.settle.conclude l f r.2

/-- The service of a request of type `ty` on link `l`; with no such frame to serve, the event does not happen (entry 2). -/
def serve (ty : Byte) (l : Link) (owner : Owner) (s : State) : Host.Outcome State Fault Refusal :=
  .next (if s.dev.hold.isSome then s
    else match s.dev.toServe l with
      | some f => if f.ty = ty then { s with dev := s.dev.serveFrame l f owner } else s
      | none => s)

/-- The reply of a request that waited for its store write (R170): discarded when the link is DOWN, sent otherwise. -/
def Dev.answerLater (l : Link) (st : Status) (items : Dev → List Item) (d : Dev) : Dev :=
  let r := d.link l
  if r.inService then
    match r.queue with
    | [] => d.modLink l fun r => { r with inService := false }
    | f :: fs =>
      if r.isDown then d.modLink l fun r => { r with inService := false, queue := fs }
      else d.answer l f st (items d)
  else d

end Sys2Proof.Machine
end

