-- ==== Sys2Proof/Machine/Alerts.lean ====
section
/-! DEFINITION. The commands of the Alert Controller (11_alerts.md): the uptime tick and the three requests. Events and notices
stand in Ops.lean and LinkOps.lean. -/

namespace Sys2Proof.Machine

/-- UPTIME_TICK (R180). -/
def Dev.uptimeTick (d : Dev) : Dev :=
  let d1 := d.passTo d.atc.uptimeDue
  { d1 with atc := { d1.atc with
      uptime := if d.atc.uptime < 4294967295 then d.atc.uptime + 1 else d.atc.uptime, uptimeDue := d1.now + 1000 } }

def execUptimeTick (s : State) : Host.Outcome State Fault Refusal := s.event Dev.uptimeTick

/-- The classes a selection names: one, or every class in priority order (section 11.3). -/
def classesOf (v : Nat) : Option (List (Fin 11)) :=
  if v = 0xFF then some (List.finRange 11) else (idOf 11 v).map fun c => [c]

/-- A class record as replies carry it (R183, section 12.6). -/
def ClassRec.items (r : ClassRec) : List Item := u16 r.count :: eventItems r.last ++ [flag r.notify, flag r.unnoticed]

def Dev.classItems (cs : List (Fin 11)) (d : Dev) : List Item := cs.flatMap fun c => (d.cls c).items

/-- ALERT READ (R183). -/
def alertRead (_ : Option Cond) (b : List Byte) (d : Dev) : Dev × Answer :=
  match classesOf (ufld b 0 1) with
  | some cs => (d, .now .ok fun d => d.classItems cs ++ [u32 d.atc.uptime])
  | none => refused d .badValue

def execAlertRead (l : Link) (s : State) : Host.Outcome State Fault Refusal := serve 0x60#8 l alertRead s

/-- A change made to each of the classes named. -/
def Dev.modClasses (cs : List (Fin 11)) (f : ClassRec → ClassRec) (d : Dev) : Dev := cs.foldl (fun d c => d.modClass c f) d

/-- ALERT CLEAR (R184). -/
def alertClear (_ : Option Cond) (b : List Byte) (d : Dev) : Dev × Answer :=
  match classesOf (ufld b 0 1) with
  | some cs =>
    (d.modClasses cs fun r => { r with count := 0, unnoticed := false }, .now .ok (Dev.classItems cs))
  | none => refused d .badValue

def execAlertClear (l : Link) (s : State) : Host.Outcome State Fault Refusal := serve 0x61#8 l alertClear s

/-- ALERT ENABLE (R184). -/
def alertEnable (_ : Option Cond) (b : List Byte) (d : Dev) : Dev × Answer :=
  match classesOf (ufld b 0 1), yesNoOf (ufld b 1 1) with
  | some cs, some v => (d.modClasses cs fun r => { r with notify := v }, .now .ok (Dev.classItems cs))
  | _, _ => refused d .badValue

def execAlertEnable (l : Link) (s : State) : Host.Outcome State Fault Refusal := serve 0x62#8 l alertEnable s

end Sys2Proof.Machine
end

