-- ==== Sys2Proof/Machine/Cooling.lean ====
section
/-! DEFINITION. The commands of the Cooling Controller (02_cooling.md): tachometer edges, the control period with the fan
judgement (R20) and the fan law (R24 to R28), the trays (R21 to R23), and the four requests. -/

namespace Sys2Proof.Machine

def Dev.modFan (f : Fin 6) (g : FanRec → FanRec) (d : Dev) : Dev :=
  { d with clc := { d.clc with fans := modAt d.clc.fans f g } }

def Dev.modTray (t : Fin 3) (g : TrayRec → TrayRec) (d : Dev) : Dev :=
  { d with clc := { d.clc with trays := modAt d.clc.trays t g } }

def Dev.modGroup (i : Fin 3) (g : GroupRec → GroupRec) (d : Dev) : Dev :=
  { d with clc := { d.clc with groups := modAt d.clc.groups i g } }

/-! ## TACHOMETER_EDGE (R19) -/

/-- R19: a rising edge is counted; the count saturates at 65535 (section 2.1). -/
def Dev.countEdge (f : Fin 6) (d : Dev) : Dev :=
  d.modFan f fun r => { r with edges := if r.edges < 65535 then r.edges + 1 else r.edges }

def execTachometerEdge (f : Fin 6) (s : State) : Host.Outcome State Fault Refusal := s.event (Dev.countEdge f)

/-! ## CONTROL_PERIOD (R18) -/

/-- R19: what a fan's record takes at a gate end. -/
def FanRec.gate (r : FanRec) : FanRec :=
  { r with lastEdges := r.edges, measured := some (r.edges * 30), expMin := some (r.rated * r.applied * 7 / 1000), edges := 0 }

/-- R20: a judged fan, from the figures of the gate just ended. -/
def FanRec.judge (r : FanRec) : FanRec :=
  let rpm := r.measured.getD 0
  let least := r.expMin.getD 0
  if r.lastEdges = 0 then { r with state := .stopped, slowCount := 0 }
  else if rpm < least then
    match r.state with
    | .ok => if r.slowCount + 1 < 3 then { r with slowCount := r.slowCount + 1 } else { r with state := .slow, slowCount := 3 }
    | _ => { r with state := .slow, slowCount := 3 }
  else { r with state := .ok, slowCount := 0 }

/-- R20: a fan at a gate end: a fan of an absent tray stays ABSENT, a fan marked for re-entry is not judged. An absent tray's fan
too has its edge count copied to last edges and its rpm formed (R19), where R20 says its edges are discarded: the model's choice
(entry 31). -/
def FanRec.atGate (present : Bool) (r : FanRec) : FanRec :=
  let g := r.gate
  if present then if g.reentry then { g with reentry := false } else g.judge else g

/-- R20: the code of the COOLING event of a fan's judgement, if it raises one (section 12.6). -/
def fanEvent (old new : FanState) : Option Nat :=
  if old = new then none
  else match new with
    | .stopped => some 0x21
    | .slow => some 0x22
    | _ => none

/-- R18, step 1, for one fan. -/
def Dev.judgeFan (d : Dev) (f : Fin 6) : Dev :=
  let old := d.clc.fans[f.val]
  let new := old.atGate d.clc.trays[(trayOf f).val].present
  let d1 := d.modFan f fun _ => new
  match fanEvent old.state new.state with
  | some code => d1.raise clsCooling .fan f.val code [new.measured.getD 0, new.expMin.getD 0]
  | none => d1

/-- R24: the sensor demand of a published average, with the group's dmin. -/
def sensorDemand (dmin : Nat) (c : Curve) : Reading → Nat
  | .nar => 100
  | .absent => dmin
  | .value t =>
    if t ≤ c.low then dmin
    else if c.high ≤ t then 100
    else dmin + (((100 - dmin : Nat) * (t - c.low) + (c.high - c.low) - 1) / (c.high - c.low)).toNat

/-- The enabled members of a group's sensor set (R24). -/
def Dev.members (d : Dev) (g : GroupRec) : List (Fin 16) :=
  (List.finRange 16).filter fun i => g.sensors.getLsbD i.val && d.ssu.temp[i.val].enabled

/-- R24, R25: the group demand before the boost and the overrides. -/
def Dev.rawDemand (d : Dev) (g : GroupRec) : Nat :=
  match g.mode with
  | .auto =>
    (d.members g).foldl (fun m i => max m (sensorDemand g.dmin d.clc.curves[i.val] d.ssu.temp[i.val].published)) g.dmin
  | .manual => min 100 (max g.manual g.dmin)

/-- A fan of the group is in a state other than OK (R26). -/
def Dev.fanTrouble (d : Dev) (i : Fin 3) : Bool :=
  (List.finRange 6).any fun f => decide (d.clc.fans[f.val].group = i) && decide (d.clc.fans[f.val].state ≠ .ok)

/-- A slot channel of the sensor set stands at CRITICAL or SHUTDOWN (R26). -/
def Dev.slotCritical (d : Dev) (g : GroupRec) : Bool :=
  (List.finRange 16).any fun i =>
    decide (4 ≤ i.val ∧ i.val < 12) && g.sensors.getLsbD i.val && (d.level i).hot

/-- A tray is absent. -/
def Dev.trayMissing (d : Dev) : Bool := (List.finRange 3).any fun t => !d.clc.trays[t.val].present

/-- R26: the group demand D. -/
def Dev.demand (d : Dev) (i : Fin 3) : Nat :=
  let g := d.clc.groups[i.val]
  let raw := d.rawDemand g
  let boosted := if d.fanTrouble i then min 100 (raw + g.boost) else raw
  if d.slotCritical g || d.trayMissing then 100 else boosted

/-- R27: the commanded duty from the demand and the duty before. -/
def slew (demand previous down : Nat) : Nat := if previous ≤ demand then demand else max demand (previous - down)

/-- R18, step 2, for one group. -/
def Dev.groupLaw (d : Dev) (i : Fin 3) : GroupRec :=
  let g := d.clc.groups[i.val]
  { g with lastDemand := some (d.demand i), duty := slew (d.demand i) g.duty g.downSlew }

/-- R28: the high ticks of 400 for a duty. -/
def ticksOf (duty : Nat) : Nat := (400 * duty + 99) / 100

/-- R18: a control period. The COOLING events of several fans come by ascending fan, which R20 leaves open (entry 27). -/
def Dev.controlPeriod (d : Dev) : Dev :=
  let d1 := d.passTo d.clc.gateEnd
  let d2 := (List.finRange 6).foldl Dev.judgeFan d1
  let groups := Vector.ofFn d2.groupLaw
  let fans := d2.clc.fans.map fun r =>
    { r with applied := groups[r.group.val].duty, highTicks := ticksOf groups[r.group.val].duty }
  { d2 with clc := { d2.clc with groups := groups, fans := fans, gateEnd := d2.now + 1000 } }

def execControlPeriod (s : State) : Host.Outcome State Fault Refusal := s.event Dev.controlPeriod

/-! ## Trays (R21 to R23) -/

def Dev.setTrayLine (t : Fin 3) (v : Bool) (d : Dev) : Dev :=
  { d with lines := { d.lines with tray := modAt d.lines.tray t fun _ => v } }

/-- R21: the presence line goes low; a tray already absent is unchanged. -/
def Dev.trayRemoved (t : Fin 3) (d : Dev) : Dev := if d.clc.trays[t.val].present then d.trayOut t else d

def execTrayRemoved (t : Fin 3) (s : State) : Host.Outcome State Fault Refusal :=
  s.lineEvent (Dev.setTrayLine t false) (Dev.trayRemoved t)

/-- R22: the presence line of an absent tray goes high. -/
def Dev.trayInserted (t : Fin 3) (d : Dev) : Dev :=
  if d.clc.trays[t.val].present then d
  else
    let d1 := d.modTray t fun _ => ⟨true, .idle⟩
    ((List.finRange 6).filter fun f => trayOf f = t).foldl (fun d f =>
      d.modFan f fun r => { r with state := .ok, slowCount := 0, reentry := true }) d1

def execTrayInserted (t : Fin 3) (s : State) : Host.Outcome State Fault Refusal :=
  s.lineEvent (Dev.setTrayLine t true) (Dev.trayInserted t)

/-- R23, R73: a RUNNING countdown ends; every slot is powered off with cause COOLING. -/
def Dev.trayExpiry (t : Fin 3) (d : Dev) : Dev :=
  match d.clc.trays[t.val].countdown with
  | .running ends =>
    (((d.passTo ends).modTray t fun r => { r with countdown := .expired }).powerOffAll .cooling).raise clsCooling .tray
      t.val 0x24 []
  | _ => d

def execTrayCountdownExpiry (t : Fin 3) (s : State) : Host.Outcome State Fault Refusal := s.event (Dev.trayExpiry t)

/-! ## GROUP SET (R30) -/

/-- A group's fan set as a mask. -/
def Dev.fanSet (d : Dev) (i : Fin 3) : Nat :=
  ((List.finRange 6).map fun f => if d.clc.fans[f.val].group = i then 2 ^ f.val else 0).sum

/-- A group's settings as a reply carries them (R30, R33). -/
def GroupRec.items (g : GroupRec) : List Item :=
  [u16 g.sensors.toNat, u8 g.mode.code, u16 g.manual, u16 g.dmin, u16 g.boost, u16 g.downSlew]

/-- R30: the settings of a group replaced and its fans moved in. -/
def Dev.setGroup (i : Fin 3) (fans : Nat) (g : GroupRec) (d : Dev) : Dev :=
  let moved := Vector.ofFn fun f : Fin 6 =>
    if fans.testBit f.val then { d.clc.fans[f.val] with group := i } else d.clc.fans[f.val]
  ({ d with clc := { d.clc with fans := moved } }).modGroup i fun _ => g

def groupSet (_ : Option Cond) (b : List Byte) (d : Dev) : Dev × Answer :=
  let fans := ufld b 1 1
  match idOf 3 (ufld b 0 1), groupModeOf (ufld b 4 1) with
  | some i, some mode =>
    let left := (List.finRange 6).any fun f => decide (d.clc.fans[f.val].group = i) && !fans.testBit f.val
    if 64 ≤ fans ∨ left then refused d .badValue
    else
      let (manual, dmin, boost, down) := (ufld b 5 2, ufld b 7 2, ufld b 9 2, ufld b 11 2)
      let g := { d.clc.groups[i.val] with
        sensors := BitVec.ofNat 16 (ufld b 2 2), mode := mode, manual := clampN 0 100 manual
        dmin := clampN 20 100 dmin, boost := clampN 0 50 boost, downSlew := clampN 1 10 down }
      (d.setGroup i fans g,
        .now (clampStatus (g.manual ≠ manual ∨ g.dmin ≠ dmin ∨ g.boost ≠ boost ∨ g.downSlew ≠ down)) fun d =>
          g.items ++ [u8 (d.fanSet 0), u8 (d.fanSet 1), u8 (d.fanSet 2)])
  | _, _ => refused d .badValue

def execGroupSet (l : Link) (s : State) : Host.Outcome State Fault Refusal := serve 0x19#8 l groupSet s

/-! ## CURVE SET (R31) -/

/-- R31: the curve held for the one asked for. -/
def curveHeld (low high : Int) : Curve :=
  let l := clampI (-80) 299 low
  let h := clampI (-80) 300 high
  ⟨l, if h ≤ l then l + 1 else h⟩

def curveSet (_ : Option Cond) (b : List Byte) (d : Dev) : Dev × Answer :=
  match tempOf (ufld b 0 1) with
  | some i =>
    let c := curveHeld (tfld b 1) (tfld b 3)
    ({ d with clc := { d.clc with curves := modAt d.clc.curves i fun _ => c } },
      .now (clampStatus (c.low ≠ tfld b 1 ∨ c.high ≠ tfld b 3)) fun _ => [i16 c.low, i16 c.high])
  | none => refused d .badValue

def execCurveSet (l : Link) (s : State) : Host.Outcome State Fault Refusal := serve 0x18#8 l curveSet s

/-! ## FAN RATING SET (R32) -/

def fanRatingSet (_ : Option Cond) (b : List Byte) (d : Dev) : Dev × Answer :=
  match idOf 6 (ufld b 0 1) with
  | some f =>
    let v := clampN 1200 30000 (ufld b 1 2)
    (d.modFan f fun r => { r with rated := v }, .now (clampStatus (v ≠ ufld b 1 2)) fun _ => [u16 v])
  | none => refused d .badValue

def execFanRatingSet (l : Link) (s : State) : Host.Outcome State Fault Refusal := serve 0x1A#8 l fanRatingSet s

/-! ## COOLING READ (R33) -/

/-- The countdown: its state, and the milliseconds that remain while it is RUNNING (section 12.2). -/
def Dev.countdownItems (d : Dev) : Countdown → List Item
  | .idle => [u8 0, u32 0]
  | .running ends => [u8 1, u32 (ends - d.now)]
  | .expired => [u8 2, u32 0]

def Dev.groupItems (d : Dev) (i : Fin 3) : List Item :=
  let g := d.clc.groups[i.val]
  u8 (d.fanSet i) :: g.items ++ [opt16 g.lastDemand, u16 g.duty]

/-- A fan as COOLING READ carries it (R33). The last edges go as they stand, 0 before the first gate end, with no mark of absence
(entry 11). -/
def FanRec.items (r : FanRec) : List Item :=
  [u8 r.group.val, u16 r.rated, u16 r.lastEdges, opt32 r.measured, opt16 r.expMin, u16 r.applied, u8 r.state.code,
    u16 r.slowCount]

def coolingRead (_ : Option Cond) (b : List Byte) (d : Dev) : Dev × Answer :=
  match ufld b 0 1 with
  | 0 =>
    (d, .now .ok fun d =>
      (List.finRange 3).flatMap d.groupItems ++
        (List.finRange 6).flatMap (fun f => d.clc.fans[f.val].items) ++
        (List.finRange 3).flatMap fun t =>
          flag d.clc.trays[t.val].present :: d.countdownItems d.clc.trays[t.val].countdown)
  | 1 => (d, .now .ok fun d => d.clc.curves.toList.flatMap fun c => [i16 c.low, i16 c.high])
  | _ => refused d .badValue

def execCoolingRead (l : Link) (s : State) : Host.Outcome State Fault Refusal := serve 0x1B#8 l coolingRead s

end Sys2Proof.Machine
end

