-- ==== Sys2Proof/Machine/Enforce.lean ====
section
/-! DEFINITION. The commands of the Enforcement Distribution Unit (08_enforcement_distribution.md): an update's last byte, the
response and resend timers (R149, R150), and ENFORCEMENT READ (R155). The rows and the updates themselves stand in
BudgetOps.lean, at the end of an event. -/

namespace Sys2Proof.Machine

/-- PERMISSION_UPDATE_SENT (R145): the frame has left; the response timer of a SENDING slot starts. -/
def Dev.updateSent (s : SlotNo) (d : Dev) : Dev :=
  match (d.slot s).tx with
  | [] => d
  | _ :: rest =>
    let d1 := d.modSlot s fun r => { r with tx := rest }
    if (d.step s).state = .sending ∧ rest = [] ∧ (d.step s).response = none then
      d1.modStep s fun r => { r with response := some (d.now + 50) }
    else d1

def execPermissionUpdateSent (s : SlotNo) (st : State) : Host.Outcome State Fault Refusal := st.event (Dev.updateSent s)

/-- RESPONSE_TIMER_EXPIRY (R149): the slot is out of step. -/
def Dev.responseEnds (s : SlotNo) (d : Dev) : Dev :=
  let r := d.step s
  match r.state, r.response with
  | .sending, some t =>
    let d1 := d.passTo t
    ((d1.modStep s fun r => { r with
      state := .outOfStep, dirty := false, response := none, resend := some (d1.now + 1000) }).raise clsEnforcement .slot s.val
        0x61 [(r.sent.getD 0 : Nat), (r.acked.getD 0 : Nat), if r.acked.isSome then 1 else 0]).callEdu
  | _, _ => d

def execResponseTimerExpiry (s : SlotNo) (st : State) : Host.Outcome State Fault Refusal := st.event (Dev.responseEnds s)

/-- RESEND_TIMER_EXPIRY (R150): the current generation is sent again; the state stays OUT_OF_STEP. -/
def Dev.resendEnds (s : SlotNo) (d : Dev) : Dev :=
  match (d.step s).state, (d.step s).resend with
  | .outOfStep, some t =>
    let d1 := d.passTo t
    (d1.modStep s fun r => { r with sent := some d.perm.gen, resend := some (d1.now + 1000) }).modSlot s
      fun r => { r with tx := r.tx ++ [d.updateFor s] }
  | _, _ => d

def execResendTimerExpiry (s : SlotNo) (st : State) : Host.Outcome State Fault Refusal := st.event (Dev.resendEnds s)

/-- A slot's step record as a reply carries it (R155). -/
def Dev.stepItems (d : Dev) (s : SlotNo) : List Item :=
  let r := d.step s
  u8 r.state.code :: pres32 r.acked ++ pres32 r.sent ++
    [flag r.dirty, u32 (if r.response.isSome then d.left r.response else d.left r.resend)]

/-- R155, SUMMARY. -/
def Dev.enforcementSummary (d : Dev) : List Item :=
  [u32 d.perm.gen, u64 d.perm.eligible.toNat] ++ (List.finRange 8).flatMap d.stepItems ++
    (List.finRange 8).flatMap fun s => [flag (d.slot s).passive, u16 (d.slot s).health]

/-- R155, SLOT. -/
def Dev.enforcementSlot (s : SlotNo) (d : Dev) : List Item :=
  u32 d.perm.gen :: d.stepItems s ++
    (portsOf s).flatMap fun p => [u64 (d.perm.rows[p.val]).toNat, u64 (d.perm.reach[p.val]).toNat]

def enforcementRead (_ : Option Cond) (b : List Byte) (d : Dev) : Dev × Answer :=
  match ufld b 0 1 with
  | 0 => (d, .now .ok Dev.enforcementSummary)
  | 1 =>
    match idOf 8 (ufld b 1 1) with
    | some s => (d, .now .ok (Dev.enforcementSlot s))
    | none => refused d .badValue
  | _ => refused d .badValue

def execEnforcementRead (l : Link) (s : State) : Host.Outcome State Fault Refusal := serve 0x50#8 l enforcementRead s

end Sys2Proof.Machine
end

