-- ==== Sys2Proof/Machine/License.lean ====
section
/-! DEFINITION. The commands of the License Unit (06_port_licensing.md): the minute tick with its expiries and deadlines (R109,
R110, R118), the completions of the store's writes (R104, R106, R107, R112), and the four requests. -/

namespace Sys2Proof.Machine

/-! ## Certificates -/

/-- A certificate put in its place of the table with a new stamp (R102). -/
def Dev.putCert (i : Fin 16) (c : CertData) (expired : Bool) (d : Dev) : Dev :=
  (d.setCert i (some ⟨c, expired, d.wtb.next⟩)).useStamp

/-- The certificate of a place is VALID and its expiry is at or below the counter (R110). -/
def Dev.expires (d : Dev) (i : Fin 16) : Bool :=
  match d.lcu.table[i.val] with
  | some e => !e.expired && decide (e.data.expiry ≠ 0) && decide (e.data.expiry ≤ d.lcu.counter)
  | none => false

/-- R110: a certificate becomes EXPIRED. -/
def Dev.expireCert (d : Dev) (i : Fin 16) : Dev :=
  match d.lcu.table[i.val] with
  | some e =>
    if d.expires i then
      (d.putCert i e.data true).raise clsLicense .cert e.data.id 0x53 [tierCode e.data.tier, e.data.seats]
    else d
  | none => d

/-- A grace is RUNNING and the counter has reached its deadline (R118, R119). -/
def Dev.graceDue (d : Dev) (t : Tier) : Bool :=
  match (d.tierRec t).grace with
  | .running deadline => deadline ≤ d.lcu.counter
  | .idle => false

/-- R119: a reclaim is called for at the deadline of a grace. -/
def Dev.graceEnds (t : Tier) (d : Dev) : Dev := if d.graceDue t then d.callReclaim t else d

/-! ## GRACE_EXPIRY (R119) -/

def execGraceExpiry (t : Tier) (s : State) : Host.Outcome State Fault Refusal := s.event (Dev.graceEnds t)

/-! ## MINUTE_TICK (R109, R110, R118) -/

/-- R109: the counter after one minute. -/
def nextMinute (n : Nat) : Nat := if n < 4294967295 then n + 1 else n

/-- R109, R110, R118: one minute tick, expiries first, then the deadlines (entry 13). Several certificates expire by ascending
store slot, which R110 leaves open (entry 27); a multiple of 60 and an expiry at one tick make one save fall due (entry 29). -/
def Dev.minuteTick (d : Dev) : Dev :=
  let d1 := d.passTo d.lcu.minuteDue
  let d2 := { d1 with lcu := { d1.lcu with counter := nextMinute d.lcu.counter, minuteDue := d1.now + 60000 } }
  let any := (List.finRange 16).any d2.expires
  let d3 := (List.finRange 16).foldl Dev.expireCert d2
  let d4 := if any ∨ d3.lcu.counter % 60 = 0 then d3.saveDue else d3
  let d5 := if any then d4.seatReview else d4
  (d5.graceEnds .base).graceEnds .high

def execMinuteTick (s : State) : Host.Outcome State Fault Refusal := s.event Dev.minuteTick

/-! ## CERT_EXPIRY (R110) -/

def Dev.certExpiry (i : Fin 16) (d : Dev) : Dev := if d.expires i then ((d.expireCert i).saveDue).seatReview else d

def execCertExpiry (place : Fin 16) (s : State) : Host.Outcome State Fault Refusal := s.event (Dev.certExpiry place)

/-! ## COUNTER_SAVE_COMPLETE (R109) -/

def Dev.saveCompletes (ok : Bool) (d : Dev) : Dev :=
  match d.lcu.op with
  | some (.save v) =>
    (if ok then d.writeCounter v else d.raise clsLicense .store 16 0x52 [v]).storeDone
  | _ => d

def execCounterSaveComplete (ok : Bool) (s : State) : Host.Outcome State Fault Refusal := s.event (Dev.saveCompletes ok)

/-! ## REPAIR_WRITE_COMPLETE (R112) -/

/-- A certificate record with its lapsed mark set. -/
def StoreRec.marked : StoreRec → StoreRec
  | .whole c _ => .whole c true
  | r => r

def Dev.repairCompletes (ok : Bool) (d : Dev) : Dev :=
  match d.lcu.op with
  | some (.mark i) =>
    (if ok then d.writeCert i (d.store.certs[i.val]).marked else d.raise clsLicense .store i.val 0x56 []).nextRepair
      (i.val + 1)
  | some (.repairCounter v) =>
    (if ok then d.writeCounter v else d.raise clsLicense .store 16 0x56 []).storeDone
  | _ => d

def execRepairWriteComplete (ok : Bool) (s : State) : Host.Outcome State Fault Refusal := s.event (Dev.repairCompletes ok)

/-! ## CERT INSTALL (R105) -/

/-- The certificate a CERT INSTALL gives (R188). -/
def certOf (t : Tier) (b : List Byte) : CertData :=
  ⟨ufld b 0 4, t, ufld b 5 1, ufld b 6 4, ufld b 10 8, ufld b 18 16⟩

/-- R105: the reason of an INVALID_CERT refusal (section 12.3), or none when the checks 1 to 4 pass. -/
def Dev.certFault (d : Dev) (c : CertData) : Option Nat :=
  if c.seats < 1 ∨ 64 < c.seats then some 1
  else if c.serial ≠ Config.chassisSerial then some 2
  else if c.verified = false then some 3
  else if c.expiry ≠ 0 ∧ c.expiry ≤ d.lcu.counter then some 4
  else none

/-- R105, check 5: the place of a certificate. -/
def Dev.placeFor (d : Dev) (id : Nat) : Option (Fin 16) :=
  match placeOfId d.lcu.table id with
  | some i => some i
  | none => freePlace d.lcu.table

/-- The store becomes busy with a write (R104). -/
def Dev.startWrite (op : StoreOp) (d : Dev) : Dev := { d with lcu := { d.lcu with op := some op } }

def certInstall (l : Link) (_ : Option Cond) (b : List Byte) (d : Dev) : Dev × Answer :=
  if d.lcu.op.isSome then refused d .busy
  else
    match tierOf (ufld b 4 1) with
    | none => refused d .badValue
    | some t =>
      let c := certOf t b
      if c.id = 0 then refused d .badValue
      else
        match d.certFault c with
        | some reason => (d, .now .invalidCert fun _ => [u8 reason])
        | none =>
          match d.placeFor c.id with
          | none => refused d .tableFull
          | some i => (d.startWrite (.install i c l), .later)

def execCertInstall (l : Link) (s : State) : Host.Outcome State Fault Refusal := serve 0x38#8 l (certInstall l) s

/-! ## CERT_INSTALL_COMPLETE (R106) -/

/-- IDLE 0, RUNNING 1. -/
def graceCode (g : Grace) : Nat := if g.isRunning then 1 else 0

/-- The totals, held counts and grace states of both tiers (R106, R107); BASE before HIGH is the model's choice (entry 11). -/
def Dev.tierFigures (d : Dev) : List Item :=
  [u16 d.lcu.base.total, u16 d.lcu.high.total, u16 d.lcu.base.held, u16 d.lcu.high.held, u8 (graceCode d.lcu.base.grace),
    u8 (graceCode d.lcu.high.grace)]

/-- R106, success: the certificate enters the table and the seats are reviewed. -/
def Dev.installDone (i : Fin 16) (c : CertData) (d : Dev) : Dev :=
  ((((d.writeCert i (.whole c false)).putCert i c false).storeDone).seatReview).settle

/-- The OK reply of CERT INSTALL (R106): id, store slot, state, whether it replaced another, and the figures. -/
def installReply (i : Fin 16) (c : CertData) (replaced : Bool) (d : Dev) : List Item :=
  [u32 c.id, u8 i.val, u8 (if (d.lcu.table[i.val]).any (·.expired) then 1 else 0), flag replaced] ++ d.tierFigures

/-- The failure of a certificate write (R106, R107): the event names the store slot, the id and the operation. -/
def Dev.writeFails (i : Fin 16) (id op : Nat) (d : Dev) : Dev :=
  ((d.raise clsLicense .store i.val 0x51 [id, op]).storeDone).settle

def Dev.installCompletes (ok : Bool) (d : Dev) : Dev :=
  match d.lcu.op with
  | some (.install i c l) =>
    if ok then ((d.installDone i c).answerLater l .ok (installReply i c (d.lcu.table[i.val]).isSome)).pump
    else ((d.writeFails i c.id 0).answerLater l .storeFault fun _ => []).pump
  | _ => d

/-- A completion answers a request: its end of the event comes before the reply is formed. -/
def State.completion (f : Dev → Dev) (s : State) : Host.Outcome State Fault Refusal :=
  .next (if s.dev.hold.isSome then s else { s with dev := f s.dev })

def execCertInstallComplete (ok : Bool) (s : State) : Host.Outcome State Fault Refusal :=
  s.completion (Dev.installCompletes ok)

/-! ## CERT REMOVE (R107) -/

def certRemove (l : Link) (c : Option Cond) (b : List Byte) (d : Dev) : Dev × Answer :=
  let id := ufld b 0 4
  if d.lcu.op.isSome then refused d .busy
  else if id = 0 then refused d .badValue
  else
    match placeOfId d.lcu.table id with
    | none => refused d .notFound
    | some i => (d.startWrite (.erase i l c), .later)

def execCertRemove (l : Link) (s : State) : Host.Outcome State Fault Refusal := serve 0x39#8 l (certRemove l) s

/-! ## CERT_REMOVE_COMPLETE (R107) -/

/-- R107, success: the certificate leaves the table and the seats are reviewed. -/
def Dev.eraseDone (i : Fin 16) (d : Dev) : Dev :=
  ((((d.writeCert i .nothing).setCert i none).storeDone).seatReview).settle

/-- R107: the block's entries are removed in CONSUME mode. -/
def Dev.consumeBlock (l : Link) (c : Option Cond) (d : Dev) : Dev :=
  match c with
  | some c => d.consume l c true
  | none => d

def Dev.removeCompletes (ok : Bool) (d : Dev) : Dev :=
  match d.lcu.op with
  | some (.erase i l c) =>
    if ok then (((d.eraseDone i).consumeBlock l c).answerLater l .ok Dev.tierFigures).pump
    else
      let id := ((d.lcu.table[i.val]).map (·.data.id)).getD 0
      ((d.writeFails i id 1).answerLater l .storeFault fun _ => []).pump
  | _ => d

def execCertRemoveComplete (ok : Bool) (s : State) : Host.Outcome State Fault Refusal :=
  s.completion (Dev.removeCompletes ok)

/-! ## LICENSE READ (R122) -/

/-- The CERT record of section 12.5. -/
def certItems (i : Fin 16) (e : CertEntry) : List Item :=
  [u32 e.data.id, u8 (tierCode e.data.tier), u8 e.data.seats, u32 e.data.expiry, u64 e.data.serial, ⟨16, e.data.code⟩,
    u8 (if e.expired then 1 else 0), u8 i.val, u48 e.stamp]

/-- The store's condition: idle 0, install 1, erase 2, counter save 3, repair step 4, with its store slot (entry 11). -/
def storeItems : Option StoreOp → List Item
  | none => [u8 0, u8 0xFF]
  | some (.install i _ _) => [u8 1, u8 i.val]
  | some (.erase i _ _) => [u8 2, u8 i.val]
  | some (.save _) => [u8 3, u8 16]
  | some (.mark i) => [u8 4, u8 i.val]
  | some (.repairCounter _) => [u8 4, u8 16]

/-- The occupied places from a starting store slot on. -/
def Dev.occupied (d : Dev) (first : Nat) : List (Fin 16 × CertEntry) :=
  (List.finRange 16).filterMap fun i =>
    if first ≤ i.val then (d.lcu.table[i.val]).map fun e => (i, e) else none

def Dev.tableItems (first : Nat) (d : Dev) : List Item :=
  let all := d.occupied first
  u16 (min 8 all.length) :: (all.take 8).flatMap (fun x => certItems x.1 x.2) ++
    [flag (decide (8 < all.length))] ++ storeItems d.lcu.op ++ [flag d.lcu.savePending, u32 d.lcu.counter]

def Dev.tierItems (d : Dev) (t : Tier) : List Item :=
  let r := d.tierRec t
  [u16 r.total, u16 r.held, u16 r.free, u16 r.shortfall] ++
    match r.grace with
    | .idle => [u8 0, u32 0, u32 0]
    | .running deadline => [u8 1, u32 deadline, u32 (deadline - d.lcu.counter)]

/-- The figures of SEATS (R122), the tiers BASE before HIGH, the model's choice (entry 11). -/
def Dev.seatItems (d : Dev) : List Item :=
  d.tierItems .base ++ d.tierItems .high ++ [u16 d.lcu.graceLen, u16 d.lcu.borrowers.length] ++
    d.lcu.borrowers.map (fun p => u8 p.val) ++ [u32 d.lcu.counter]

def licenseRead (_ : Option Cond) (b : List Byte) (d : Dev) : Dev × Answer :=
  match ufld b 0 1 with
  | 0 => if 15 < ufld b 1 1 then refused d .badValue else (d, .now .ok (Dev.tableItems (ufld b 1 1)))
  | 1 => (d, .now .ok Dev.seatItems)
  | _ => refused d .badValue

def execLicenseRead (l : Link) (s : State) : Host.Outcome State Fault Refusal := serve 0x3A#8 l licenseRead s

/-! ## GRACE SET (R121) -/

/-- GRACE SET (R121). The reply has the grace timers BASE before HIGH, the model's choice (entry 11). -/
def graceSet (_ : Option Cond) (b : List Byte) (d : Dev) : Dev × Answer :=
  let n := clampN 0 10080 (ufld b 0 2)
  ({ d with lcu := { d.lcu with graceLen := n } },
    .now (clampStatus (n ≠ ufld b 0 2)) fun d =>
      [u16 n, u8 (graceCode d.lcu.base.grace), u8 (graceCode d.lcu.high.grace)])

def execGraceSet (l : Link) (s : State) : Host.Outcome State Fault Refusal := serve 0x3B#8 l graceSet s

end Sys2Proof.Machine
end

