-- ==== Sys2Proof/Machine/Links.lean ====
section
/-! DEFINITION. The commands of the management links and the Mastership Arbiter (10_management_links_and_mastership.md): frames,
breaks and line levels (R166 to R168), the transmitter (R173), mastership and heartbeats (R174 to R176), identity and link
status (R177). -/

namespace Sys2Proof.Machine

def Dev.setRx (l : Link) (x : Rx) (d : Dev) : Dev := d.modLink l fun r => { r with rx := x }

/-! ## Frames on the line (R166) -/

/-- LINK_FRAME_RECEIVED: the bytes after a start byte, as they stand (entry 22). -/
def Dev.frameArrives (l : Link) (wire : List Byte) (d : Dev) : Dev :=
  if d.takesInput l then
    match arrival wire with
    | .good f => d.goodFrame l f
    | .bad => d.badFrame l
    | .unfinished => d.setRx l .inFrame
  else d

def execLinkFrameReceived (l : Link) (wire : List Byte) (s : State) : Host.Outcome State Fault Refusal :=
  s.event (Dev.frameArrives l wire)

/-- LINK_BAD_FRAME: a CRC mismatch or an over-length field. -/
def Dev.badArrives (l : Link) (d : Dev) : Dev := if d.takesInput l then d.badFrame l else d

def execLinkBadFrame (l : Link) (s : State) : Host.Outcome State Fault Refusal := s.event (Dev.badArrives l)

/-- LINK_GAP_TIMEOUT: no byte for 2 ms inside a frame while the line stands idle. -/
def Dev.gapPasses (l : Link) (d : Dev) : Dev :=
  if d.takesInput l ∧ (d.link l).rx = .inFrame then d.badFrame l else d

def execLinkGapTimeout (l : Link) (s : State) : Host.Outcome State Fault Refusal := s.event (Dev.gapPasses l)

/-- FRAME_START_BYTE: an IDLE receiver begins a frame (R166, R77). -/
def Dev.startByte (r : RxLine) (d : Dev) : Dev :=
  match r with
  | .mgmt l => if d.takesInput l ∧ (d.link l).rx = .idle then d.setRx l .inFrame else d
  | .slot s => if (d.slot s).rx = .idle then d.modSlot s fun x => { x with rx := .inFrame } else d

def execFrameStartByte (r : RxLine) (s : State) : Host.Outcome State Fault Refusal := s.event (Dev.startByte r)

/-! ## The line held low (R166, R167) -/

/-- LINE_FALLS_LOW: while the line stays low, no gap is judged. -/
def execLineFallsLow (l : Link) (s : State) : Host.Outcome State Fault Refusal :=
  s.lineEvent (Dev.setLineLow l true) id

/-- R166: the line rises before 10 ms have passed; a frame in progress is bad. -/
def Dev.lineBack (l : Link) (d : Dev) : Dev := if (d.link l).rx = .inFrame ∧ d.down l = false then d.badFrame l else d

/-- LINE_RISES_BEFORE_BREAK: of a line that stood low, and whose break was not recognised. -/
def execLineRisesBeforeBreak (l : Link) (s : State) : Host.Outcome State Fault Refusal :=
  if s.dev.lineLow l ∧ (s.dev.link l).rx ≠ .brk then s.lineEvent (Dev.setLineLow l false) (Dev.lineBack l) else .next s

/-- R167: the recognition of a break. -/
def Dev.breakSeen (l : Link) (d : Dev) : Dev :=
  if (d.link l).rx = .brk then d
  else (d.modLink l fun r => { r.emptyQueue with rx := .brk, errs := 0 }).dropLinkWatches l

/-- LINK_BREAK (R167). -/
def execLinkBreak (l : Link) (s : State) : Host.Outcome State Fault Refusal :=
  s.lineEvent (Dev.setLineLow l true) (Dev.breakSeen l)

/-- BREAK_END (R167). -/
def Dev.breakOver (l : Link) (d : Dev) : Dev := if (d.link l).rx = .brk then d.setRx l .idle else d

def execBreakEnd (l : Link) (s : State) : Host.Outcome State Fault Refusal :=
  s.lineEvent (Dev.setLineLow l false) (Dev.breakOver l)

/-! ## LINK_TRANSMIT_END (R173) -/

/-- A frame has left; the OK reply of a SUPERVISOR RESTART begins the reset (R178, entry 14). -/
def Dev.frameLeft (l : Link) (d : Dev) : Dev :=
  let d1 := d.modLink l fun r => { r with tx := none }
  match (d.link l).tx with
  | some (.reply r) => if r.isRestart then d1.beginReset .command else d1
  | _ => d1

def execLinkTransmitEnd (l : Link) (s : State) : Host.Outcome State Fault Refusal := s.event (Dev.frameLeft l)

/-! ## UNKNOWN_REQUEST (R171) -/

/-- The head of the queue, when its type names no request, is answered UNKNOWN_TYPE before any other check. -/
def Dev.answerUnknown (l : Link) (f : Frame) (d : Dev) : Dev := (d.answer l f .unknownType []).pump

def execUnknownRequest (l : Link) (s : State) : Host.Outcome State Fault Refusal :=
  .next (if s.dev.hold.isSome then s
    else match s.dev.toServe l with
      | some f => if requestTypes.contains f.ty then s else { s with dev := s.dev.answerUnknown l f }
      | none => s)

/-! ## IDENTIFY, LINK STATUS (R177) -/

/-- IDENTIFY (R177). The vendor and part codes and the silicon revision go in two bytes each (entry 11). -/
def identify (_ : Option Cond) (_ : List Byte) (d : Dev) : Dev × Answer :=
  (d, .now .ok fun d =>
    [u16 Config.vendorCode, u16 Config.partCode, u16 Config.siliconRevision, u64 Config.chassisSerial, u32 d.lcu.counter])

def execIdentify (l : Link) (s : State) : Host.Outcome State Fault Refusal := serve 0x01#8 l identify s

def Dev.linkItems (d : Dev) (l : Link) : List Item :=
  let r := d.link l
  [u8 r.healthCode, u16 r.errs, u16 r.overrun, u8 (d.roleCode l), u32 (d.left r.deadline), u16 (d.watchesOf l).length]

/-- What LINK STATUS returns to link `l`. -/
def Dev.statusItems (d : Dev) (l : Link) : List Item :=
  d.linkItems .a ++ d.linkItems .b ++
    [opt8 (d.msa.master.map linkCode), u16 d.msa.hmin, u16 d.msa.hmax, u8 (linkCode l)]

def linkStatus (l : Link) (_ : Option Cond) (b : List Byte) (d : Dev) : Dev × Answer :=
  match ufld b 0 1 with
  | 0 => (d, .now .ok fun d => d.statusItems l)
  | 1 => (d.modLink l fun r => { r with overrun := 0 }, .now .ok fun _ => d.statusItems l)
  | _ => refused d .badValue

def execLinkStatus (l : Link) (s : State) : Host.Outcome State Fault Refusal := serve 0x08#8 l (linkStatus l) s

/-! ## Mastership (R174) -/

def masterClaim (l : Link) (_ : Option Cond) (_ : List Byte) (d : Dev) : Dev × Answer :=
  match d.msa.master with
  | none => (d.grant l, refuse .ok)
  | some m => if m = l then (d, refuse .ok) else refused d .held

def execMasterClaim (l : Link) (s : State) : Host.Outcome State Fault Refusal := serve 0x03#8 l (masterClaim l) s

def masterRelease (l : Link) (_ : Option Cond) (_ : List Byte) (d : Dev) : Dev × Answer :=
  (d.endMastership l .release, refuse .ok)

def execMasterRelease (l : Link) (s : State) : Host.Outcome State Fault Refusal := serve 0x04#8 l (masterRelease l) s

/-! ## Standby and heartbeats (R175) -/

/-- R175: a link with no role becomes STANDBY. -/
def Dev.register (l : Link) (d : Dev) : Dev :=
  d.modLink l fun r => { r with standby := true, deadline := some (d.now + d.msa.hmax), lastGood := none }

def standbyRegister (l : Link) (_ : Option Cond) (_ : List Byte) (d : Dev) : Dev × Answer :=
  if d.msa.master = some l then refused d .wrongState
  else if (d.link l).standby then (d, refuse .ok)
  else (d.register l, refuse .ok)

def execStandbyRegister (l : Link) (s : State) : Host.Outcome State Fault Refusal := serve 0x05#8 l (standbyRegister l) s

/-- R175: a heartbeat less than Hmin after the last good one in the role. -/
def Dev.early (d : Dev) (l : Link) : Bool := (d.link l).lastGood.any fun t => d.now - t < d.msa.hmin

/-- R175: a good heartbeat. -/
def Dev.beat (l : Link) (d : Dev) : Dev :=
  d.modLink l fun r => { r with lastGood := some d.now, deadline := some (d.now + d.msa.hmax) }

def heartbeat (l : Link) (_ : Option Cond) (_ : List Byte) (d : Dev) : Dev × Answer :=
  if d.hasRole l then
    if d.early l then refused d .early
    else (d.beat l, .now .ok fun d => [u8 (d.roleCode l), u32 (d.left (d.link l).deadline)])
  else refused d .wrongState

def execHeartbeat (l : Link) (s : State) : Host.Outcome State Fault Refusal := serve 0x06#8 l (heartbeat l) s

/-- R175: the window held for the one asked for. -/
def windowHeld (hmin hmax : Nat) : Nat × Nat :=
  let hi := clampN 100 60000 hmax
  let lo := clampN 0 10000 hmin
  (if hi ≤ lo then hi - 1 else lo, hi)

def heartbeatWindowSet (_ : Option Cond) (b : List Byte) (d : Dev) : Dev × Answer :=
  let w := windowHeld (ufld b 0 2) (ufld b 2 2)
  ({ d with msa := { d.msa with hmin := w.1, hmax := w.2 } },
    .now (clampStatus (w.1 ≠ ufld b 0 2 ∨ w.2 ≠ ufld b 2 2)) fun _ => [u16 w.1, u16 w.2])

def execHeartbeatWindowSet (l : Link) (s : State) : Host.Outcome State Fault Refusal := serve 0x07#8 l heartbeatWindowSet s

/-! ## Deadlines (R176) -/

/-- MASTER_DEADLINE_EXPIRY: mastership ends with cause EXPIRY. -/
def Dev.masterExpires (d : Dev) : Dev :=
  match d.msa.master with
  | none => d
  | some l =>
    match (d.link l).deadline with
    | some t => (d.passTo t).endMastership l .expiry
    | none => d

def execMasterDeadlineExpiry (s : State) : Host.Outcome State Fault Refusal := s.event Dev.masterExpires

/-- STANDBY_LAPSE. -/
def Dev.standbyLapses (l : Link) (d : Dev) : Dev :=
  match (d.link l).standby, (d.link l).deadline with
  | true, some t => (d.passTo t).lapse l
  | _, _ => d

def execStandbyLapse (l : Link) (s : State) : Host.Outcome State Fault Refusal := s.event (Dev.standbyLapses l)

end Sys2Proof.Machine
end

