-- ==== Sys2Proof/Machine/Ports.lean ====
section
/-! DEFINITION. The commands of the Port Controller (05_ports.md): the five requests of section 5.5. The port state machine
itself stands in Ops.lean. -/

namespace Sys2Proof.Machine

/-- The port's state and seat, which every reply the PTC forms carries (section 5.5). -/
def stateSeat (p : PortNo) (d : Dev) : List Item := [u8 (d.port p).state.code, u8 (d.port p).seat.code]

/-- A refusal that the PTC forms (section 12.3). -/
def refusePort (p : PortNo) (st : Status) (d : Dev) : Dev × Answer := (d, .now st (stateSeat p))

/-- The slot is POWERED and its channel stands below CRITICAL (R92, R96). -/
def Dev.slotServes (d : Dev) (s : SlotNo) : Bool := decide ((d.slot s).state = .powered) && !d.slotHot s

/-! ## PORT CONFIGURE (R91) -/

def Dev.configurePort (p : PortNo) (t : Tier) (pr : Fin 4) (d : Dev) : Dev :=
  if (d.port p).tier = t ∧ (d.port p).priority = pr then d
  else (d.modPort p fun r => { r with tier := t, priority := pr }).stampPort p

def portConfigure (_ : Option Cond) (b : List Byte) (d : Dev) : Dev × Answer :=
  match idOf 64 (ufld b 0 1) with
  | none => refused d .badValue
  | some p =>
    match tierOf (ufld b 1 1) with
    | none => refusePort p .badValue d
    | some t =>
      if (d.port p).state ≠ .offline then refusePort p .wrongState d
      else
        (d.configurePort p t ⟨min 3 (ufld b 2 1), by omega⟩,
          .now (clampStatus (3 < ufld b 2 1)) fun d =>
            [u8 (tierCode (d.port p).tier), u8 (d.port p).priority.val] ++ stateSeat p d)

def execPortConfigure (l : Link) (s : State) : Host.Outcome State Fault Refusal := serve 0x30#8 l portConfigure s

/-! ## PORT ACTIVATE (R92, R93) -/

/-- R93: seat and power taken together. -/
def Dev.activatePort (p : PortNo) (seat : Seat) (c : Fin 4) (d : Dev) : Dev :=
  ((d.modPort p fun r => { r with seat := seat, seated := some c }).toActive p).seatTaken p seat

def portActivate (_ : Option Cond) (b : List Byte) (d : Dev) : Dev × Answer :=
  match idOf 64 (ufld b 0 1) with
  | none => refused d .badValue
  | some p =>
    let r := d.port p
    match r.optic with
    | none => refusePort p .wrongState d
    | some c =>
      if r.state = .offline ∧ d.slotServes (slotOf p) then
        match d.seatChoice r.tier with
        | none => refusePort p .noSeat d
        | some seat =>
          if d.fits (classPower c) then
            (d.activatePort p seat c,
              .now .ok fun d => [u8 (d.port p).seat.code, opt16 (d.port p).admitted] ++ stateSeat p d)
          else refusePort p .budget d
      else refusePort p .wrongState d

def execPortActivate (l : Link) (s : State) : Host.Outcome State Fault Refusal := serve 0x31#8 l portActivate s

/-! ## PORT DEACTIVATE (R95) -/

def portDeactivate (_ : Option Cond) (b : List Byte) (d : Dev) : Dev × Answer :=
  match idOf 64 (ufld b 0 1) with
  | none => refused d .badValue
  | some p =>
    if (d.port p).state = .offline then refusePort p .wrongState d
    else (d.offline p .host, .now .ok (stateSeat p))

def execPortDeactivate (l : Link) (s : State) : Host.Outcome State Fault Refusal := serve 0x32#8 l portDeactivate s

/-! ## PORT RESUME (R96) -/

def portResume (_ : Option Cond) (b : List Byte) (d : Dev) : Dev × Answer :=
  match idOf 64 (ufld b 0 1) with
  | none => refused d .badValue
  | some p =>
    let r := d.port p
    if r.state = .held ∧ d.slotServes (slotOf p) ∧ r.optic.isSome then
      if d.fits r.power then (d.toActive p, .now .ok (stateSeat p)) else refusePort p .budget d
    else refusePort p .wrongState d

def execPortResume (l : Link) (s : State) : Host.Outcome State Fault Refusal := serve 0x33#8 l portResume s

/-! ## PORT READ (R98) -/

/-- The PORT record of section 12.5. -/
def Dev.portItems (d : Dev) (p : PortNo) : List Item :=
  let r := d.port p
  [u8 p.val, u8 (tierCode r.tier), u8 r.priority.val, optItem r.optic, optItem r.seated, u8 r.state.code, u8 r.seat.code,
    opt8 r.admitted, opt8 (r.cause.map PortCause.code), u48 r.stamp]

def Dev.portReadItems (p : PortNo) (d : Dev) : List Item :=
  let s := slotOf p
  d.portItems p ++
    [opt8 (placeIn p d.pbu.restoreQ), opt8 (placeIn p d.lcu.borrowers), u8 (d.slot s).state.code,
      flag (d.slot s).statusSeen, u8 (d.level (tempOfSlot s)).code, flag (inMask d.perm.eligible p)]

def portRead (_ : Option Cond) (b : List Byte) (d : Dev) : Dev × Answer :=
  match ufld b 0 1 with
  | 0 =>
    match idOf 64 (ufld b 1 1) with
    | some p => (d, .now .ok (Dev.portReadItems p))
    | none => refused d .badValue
  | 1 => (d, .now .ok fun d => (List.finRange 64).flatMap fun p => stateSeat p d)
  | _ => refused d .badValue

def execPortRead (l : Link) (s : State) : Host.Outcome State Fault Refusal := serve 0x34#8 l portRead s

end Sys2Proof.Machine
end

