-- ==== Sys2Proof/Machine/Power.lean ====
section
/-! DEFINITION. The commands of the Power Budget Unit (03_chassis_power_budget.md): the supply lines and the wait (R34 to R37),
and the four requests (R53 to R56). -/

namespace Sys2Proof.Machine

/-! ## The supply lines -/

def Dev.setSupplyPresence (b : BayNo) (v : Bool) (d : Dev) : Dev :=
  { d with lines := { d.lines with supplyPresence := modAt d.lines.supplyPresence b fun _ => v } }

def Dev.setSupplyPowerGood (b : BayNo) (v : Bool) (d : Dev) : Dev :=
  { d with lines := { d.lines with supplyPowerGood := modAt d.lines.supplyPowerGood b fun _ => v } }

def Dev.setSupplyFault (b : BayNo) (v : Bool) (d : Dev) : Dev :=
  { d with lines := { d.lines with supplyFault := modAt d.lines.supplyFault b fun _ => v } }

def Dev.setWait (b : BayNo) (w : Option Nat) (d : Dev) : Dev := d.modSupply b fun r => { r with wait := w }

/-- R37: a change of a supply's state takes a stamp, raises a POWER event when it leaves ONLINE, and is followed by a budget
evaluation. -/
def Dev.supplyTo (b : BayNo) (st : SupplyState) (w : Option Nat) (d : Dev) : Dev :=
  let old := (d.supply b).state
  let d1 := (d.modSupply b fun r => { r with state := st, wait := w }).stampSupply b
  (if old = .online then d1.raise clsPower .bay b.val 0x31 [old.code, st.code] else d1).evaluate

/-- Entry to STARTING: the wait runs at once when power-good is high (R34, R36). -/
def Dev.supplyStarts (b : BayNo) (d : Dev) : Dev :=
  d.supplyTo b .starting (if d.lines.supplyPowerGood[b.val] then some (d.now + 2000) else none)

/-! ## SUPPLY_PRESENCE_RISE, SUPPLY_PRESENCE_FALL (R34) -/

def Dev.supplyPresent (b : BayNo) (d : Dev) : Dev :=
  match (d.supply b).state with
  | .absent => if d.lines.supplyFault[b.val] then d.supplyTo b .faulted none else d.supplyStarts b
  | _ => d

def execSupplyPresenceRise (b : BayNo) (s : State) : Host.Outcome State Fault Refusal :=
  s.lineEvent (Dev.setSupplyPresence b true) (Dev.supplyPresent b)

def Dev.supplyGone (b : BayNo) (d : Dev) : Dev :=
  match (d.supply b).state with
  | .absent => d
  | _ => d.supplyTo b .absent none

def execSupplyPresenceFall (b : BayNo) (s : State) : Host.Outcome State Fault Refusal :=
  s.lineEvent (Dev.setSupplyPresence b false) (Dev.supplyGone b)

/-! ## SUPPLY_POWER_GOOD_RISE, SUPPLY_POWER_GOOD_FALL (R35, R36) -/

def Dev.supplyGoodRise (b : BayNo) (d : Dev) : Dev :=
  match (d.supply b).state with
  | .starting => if (d.supply b).wait.isNone then d.setWait b (some (d.now + 2000)) else d
  | .faulted => if d.lines.supplyFault[b.val] then d else d.supplyStarts b
  | _ => d

def execSupplyPowerGoodRise (b : BayNo) (s : State) : Host.Outcome State Fault Refusal :=
  s.lineEvent (Dev.setSupplyPowerGood b true) (Dev.supplyGoodRise b)

def Dev.supplyGoodFall (b : BayNo) (d : Dev) : Dev :=
  match (d.supply b).state with
  | .starting => d.setWait b none
  | .online => d.supplyTo b .faulted none
  | _ => d

def execSupplyPowerGoodFall (b : BayNo) (s : State) : Host.Outcome State Fault Refusal :=
  s.lineEvent (Dev.setSupplyPowerGood b false) (Dev.supplyGoodFall b)

/-! ## SUPPLY_FAULT_ASSERT, SUPPLY_FAULT_CLEAR (R36) -/

def Dev.supplyFaults (b : BayNo) (d : Dev) : Dev :=
  match (d.supply b).state with
  | .starting => d.supplyTo b .faulted none
  | .online => d.supplyTo b .faulted none
  | _ => d

def execSupplyFaultAssert (b : BayNo) (s : State) : Host.Outcome State Fault Refusal :=
  s.lineEvent (Dev.setSupplyFault b true) (Dev.supplyFaults b)

def Dev.supplyFaultClears (b : BayNo) (d : Dev) : Dev :=
  match (d.supply b).state with
  | .faulted => if d.lines.supplyPowerGood[b.val] then d.supplyStarts b else d
  | _ => d

def execSupplyFaultClear (b : BayNo) (s : State) : Host.Outcome State Fault Refusal :=
  s.lineEvent (Dev.setSupplyFault b false) (Dev.supplyFaultClears b)

/-! ## SUPPLY_WAIT_EXPIRY (R35) -/

def Dev.supplyWaitEnds (b : BayNo) (d : Dev) : Dev :=
  match (d.supply b).state, (d.supply b).wait with
  | .starting, some t => (d.passTo t).supplyTo b .online none
  | _, _ => d

def execSupplyWaitExpiry (b : BayNo) (s : State) : Host.Outcome State Fault Refusal := s.event (Dev.supplyWaitEnds b)

/-! ## SUPPLY SET (R53) -/

/-- R53, R37: a bay's capacity replaced; a changed one takes a stamp and causes an evaluation. -/
def Dev.setCapacity (b : BayNo) (v : Nat) (d : Dev) : Dev :=
  if (d.supply b).capacity = v then d
  else ((d.modSupply b fun r => { r with capacity := v }).stampSupply b).evaluate

def supplySet (_ : Option Cond) (b : List Byte) (d : Dev) : Dev × Answer :=
  match idOf 4 (ufld b 0 1) with
  | some bay =>
    let v := clampN 0 4000 (ufld b 1 2)
    (d.setCapacity bay v,
      .now (clampStatus (v ≠ ufld b 1 2)) fun d =>
        [u16 (d.supply bay).capacity, u8 (d.supply bay).state.code, u16 d.pbu.available, u16 d.pbu.allocated, i16 d.headroom])
  | none => refused d .badValue

def execSupplySet (l : Link) (s : State) : Host.Outcome State Fault Refusal := serve 0x20#8 l supplySet s

/-! ## BUDGET MODE SET (R54) -/

def Dev.setMode (m : Redundancy) (d : Dev) : Dev :=
  if d.pbu.mode = m then d else ({ d with pbu := { d.pbu with mode := m } }).evaluate

def budgetModeSet (_ : Option Cond) (b : List Byte) (d : Dev) : Dev × Answer :=
  match redundancyOf (ufld b 0 1) with
  | some m =>
    (d.setMode m,
      .now .ok fun d =>
        [u8 d.pbu.mode.code, u16 d.pbu.raw, u16 d.pbu.available, u16 d.pbu.allocated, i16 d.headroom, flag d.pbu.redLost,
          flag d.pbu.overcommit])
  | none => refused d .badValue

def execBudgetModeSet (l : Link) (s : State) : Host.Outcome State Fault Refusal := serve 0x21#8 l budgetModeSet s

/-! ## RESERVE SET (R55) -/

/-- R55: R and M replaced; allocated moves with R, and a restore pass is called for when either falls. -/
def Dev.setReserve (r m : Nat) (d : Dev) : Dev :=
  let d1 := (d.book (d.pbu.allocated + r - d.pbu.reserve))
  let d2 := { d1 with pbu := { d1.pbu with reserve := r, margin := m } }
  if r < d.pbu.reserve ∨ m < d.pbu.margin then d2.callRestore else d2

def reserveSet (_ : Option Cond) (b : List Byte) (d : Dev) : Dev × Answer :=
  let r := clampN 0 2000 (ufld b 0 2)
  let m := clampN 0 200 (ufld b 2 2)
  if d.pbu.reserve < r ∧ d.fits (r - d.pbu.reserve) = false then refused d .budget
  else
    (d.setReserve r m,
      .now (clampStatus (r ≠ ufld b 0 2 ∨ m ≠ ufld b 2 2)) fun d =>
        [u16 d.pbu.reserve, u16 d.pbu.margin, u16 d.pbu.allocated, i16 d.headroom])

def execReserveSet (l : Link) (s : State) : Host.Outcome State Fault Refusal := serve 0x22#8 l reserveSet s

/-! ## BUDGET READ (R56) -/

def Dev.bayItems (d : Dev) (b : BayNo) : List Item :=
  let r := d.supply b
  [u8 r.state.code, flag r.wait.isSome, u32 (d.left r.wait), u16 r.capacity, u48 r.stamp]

/-- A temperature that may be absent. -/
def tinItem : Option Int → Item
  | none => ⟨2, 0x7FFF⟩
  | some v => i16 v

/-- R56: what BUDGET READ returns; the derate, a percentage, is sent in two bytes (entry 11). -/
def Dev.budgetItems (d : Dev) : List Item :=
  let p := d.pbu
  (List.finRange 4).flatMap d.bayItems ++
    [u8 p.mode.code, flag p.redLost, flag p.overcommit, u16 p.reserve, u16 p.margin, tinItem p.tin, u16 p.raw, u16 p.derate,
      u16 p.available, u16 p.allocated, i16 d.headroom, u16 p.reserve, u16 p.heldSum, u16 d.portPowerSum] ++
    (List.finRange 8).map (fun s => opt16 (d.heldBase s)) ++
    u16 p.restoreQ.length :: p.restoreQ.flatMap fun q => [u8 q.val, u16 (d.port q).power]

def budgetRead (_ : Option Cond) (_ : List Byte) (d : Dev) : Dev × Answer := (d, .now .ok Dev.budgetItems)

def execBudgetRead (l : Link) (s : State) : Host.Outcome State Fault Refusal := serve 0x23#8 l budgetRead s

end Sys2Proof.Machine
end

