-- ==== Sys2Proof/Machine/ResetCmds.lean ====
section
/-! DEFINITION. The resets of the part and the requests on them (R178, R179). What a reset does to the state, and what its end
does, stand in LinkOps.lean. -/

namespace Sys2Proof.Machine

/-- POWER_ON_RESET: the supply rises from unpowered. -/
def execPowerOnReset (s : State) : Host.Outcome State Fault Refusal := .next { s with dev := s.dev.beginReset .power }

/-- The part is held by the supply monitor. -/
def Dev.supplyHeld (d : Dev) : Bool := d.hold.any fun h => h.supply.isSome

/-- R178: a fall of the supply during the 4 ms starts them again. -/
def Dev.holdAgain (d : Dev) : Dev :=
  { d with hold := d.hold.map fun h => { h with supply := h.supply.map fun _ => d.now + 4 } }

/-- SUPPLY_DIP: in the supply monitor's own hold it only starts the 4 ms again (entry 15). -/
def Dev.dip (d : Dev) : Dev := if d.supplyHeld then d.holdAgain else d.beginReset .dip

def execSupplyDip (s : State) : Host.Outcome State Fault Refusal := .next { s with dev := s.dev.dip }

/-- SUPPLY_FALL_IN_RESET_HOLD. -/
def execSupplyFallInResetHold (s : State) : Host.Outcome State Fault Refusal := .next { s with dev := s.dev.holdAgain }

/-- EXTERNAL_RESET: the line asserts. -/
def Dev.externalReset (d : Dev) : Dev :=
  if d.lines.externalReset then d
  else ({ d with lines := { d.lines with externalReset := true } }).beginReset .ext

def execExternalReset (s : State) : Host.Outcome State Fault Refusal := .next { s with dev := s.dev.externalReset }

/-- SUPERVISOR_RESTART_RESET: the reply it waited for has left, or is discarded (entry 14). -/
def Dev.restartBegins (d : Dev) : Dev :=
  if d.mli.a.restartDue || d.mli.b.restartDue then d.beginReset .command else d

def execSupervisorRestartReset (s : State) : Host.Outcome State Fault Refusal := .next { s with dev := s.dev.restartBegins }

/-- RESET_END (R179): every condition has ended. -/
def Dev.leaveReset (d : Dev) : Dev := if d.hold.isSome then d.endReset.finish else d

def execResetEnd (s : State) : Host.Outcome State Fault Refusal := .next { s with dev := s.dev.leaveReset }

/-- The reset-cause set as one byte: POWER bit 0, SUPPLY_DIP 1, EXTERNAL 2, COMMAND 3 (entry 11). -/
def Causes.code (c : Causes) : Nat :=
  (if c.power then 1 else 0) + (if c.dip then 2 else 0) + (if c.ext then 4 else 0) + (if c.command then 8 else 0)

/-- RESET CAUSE READ (R178). -/
def resetCauseRead (_ : Option Cond) (b : List Byte) (d : Dev) : Dev × Answer :=
  match yesNoOf (ufld b 0 1) with
  | some clear => (if clear then { d with causes := {} } else d, .now .ok fun _ => [u8 d.causes.code])
  | none => refused d .badValue

def execResetCauseRead (l : Link) (s : State) : Host.Outcome State Fault Refusal := serve 0x02#8 l resetCauseRead s

/-- SUPERVISOR RESTART (R178): the reset waits for this reply to leave. -/
def supervisorRestart (_ : Option Cond) (_ : List Byte) (d : Dev) : Dev × Answer := (d, refuse .ok)

def execSupervisorRestart (l : Link) (s : State) : Host.Outcome State Fault Refusal := serve 0x09#8 l supervisorRestart s

end Sys2Proof.Machine
end

