-- ==== Sys2Proof/Machine/Sensors.lean ====
section
/-! DEFINITION. The commands of the Sensor Scan Unit (01_sensor_acquisition.md): the sweep's start and end, with what the
consumers do at a publication (R42, R64, R70), and the four requests. -/

namespace Sys2Proof.Machine

def Dev.modCur (s : SlotNo) (f : ChanRec → ChanRec) (d : Dev) : Dev :=
  { d with ssu := { d.ssu with cur := modAt d.ssu.cur s f } }

def Dev.modTemp (i : Fin 16) (f : ChanRec → ChanRec) (d : Dev) : Dev :=
  { d with ssu := { d.ssu with temp := modAt d.ssu.temp i f } }

def Dev.modLimits (i : Fin 16) (f : LimitRec → LimitRec) (d : Dev) : Dev :=
  { d with ssu := { d.ssu with limits := modAt d.ssu.limits i f } }

/-! ## SWEEP_START (R1) -/

/-- A channel's turn comes: it is acquired when it is enabled (R1). -/
def turnTaken (enabled : Bool) : Turn := if enabled then .taken else .skipped

/-- The turns of the next channels in the sweep's order (C0 to C7, then T0 to T15) come, as many as the sweep's list says next;
each finds its channel enabled or not as it stands now (R1, entry 6). -/
def Sweep.advance (cur : Vector ChanRec 8) (temp : Vector ChanRec 16) (sw : Sweep) : Sweep :=
  match sw.later with
  | [] => sw
  | n :: rest =>
    { sw with
      cur := Vector.ofFn fun s : SlotNo =>
        if sw.come ≤ s.val ∧ s.val < sw.come + n then turnTaken cur[s.val].enabled else sw.cur[s.val]
      temp := Vector.ofFn fun i : Fin 16 =>
        if sw.come ≤ 8 + i.val ∧ 8 + i.val < sw.come + n then turnTaken temp[i.val].enabled else sw.temp[i.val]
      come := sw.come + n
      later := rest }

/-- The turns that come next in the sweep in progress, if there is one. -/
def Dev.nextTurns (d : Dev) : Dev :=
  { d with ssu := { d.ssu with sweep := d.ssu.sweep.map (Sweep.advance d.ssu.cur d.ssu.temp) } }

/-- R1: a sweep starts; the first turns come before any channel is configured (entry 6). -/
def Dev.startSweep (r : Readings) (turns : List Nat) (d : Dev) : Dev :=
  match d.ssu.sweep with
  | some _ => d
  | none =>
    let d1 := d.passTo d.ssu.sweepDue
    Dev.nextTurns { d1 with ssu := { d1.ssu with
      sweepDue := d1.now + 100, sweep := some { readings := r, later := turns } } }

def execSweepStart (r : Readings) (turns : List Nat) (s : State) : Host.Outcome State Fault Refusal :=
  s.event (Dev.startSweep r turns)

/-! ## SWEEP_END (R2) -/

/-- A delivered sample: NAR or a value (R3, R4). -/
inductive Sample where
  | nar
  | value (v : Int)
  deriving DecidableEq, Repr

/-- R3: a sensor's answer as a sample. -/
def tempSample : Option Int → Sample
  | some v => if -80 ≤ v ∧ v ≤ 300 then .value v else .nar
  | none => .nar

/-- R4: a current sample, NAR when the sweep's reference check failed. -/
def curSample (refOk : Bool) (code : BitVec 12) : Sample := if refOk then .value code.toNat else .nar

/-- R6: a sample taken into the window in progress. -/
def ChanRec.take (x : Sample) (r : ChanRec) : ChanRec :=
  match x with
  | .value v => { r with acc := r.acc + v, count := r.count + 1, recent := .value v }
  | .nar => { r with poisoned := true, count := r.count + 1, recent := .nar }

/-- The samples of a window: n = 4^k. -/
def ChanRec.window (r : ChanRec) : Nat := 4 ^ r.k.val

/-- R7, R8: a window closes with the content it has. -/
def ChanRec.close (r : ChanRec) : ChanRec :=
  if r.poisoned then
    let runs := min 3 (r.narRuns + 1)
    { r with
      published := .nar, narRuns := runs, acc := 0, count := 0, poisoned := false
      health := if runs = 3 ∧ r.enabled then .failed else r.health }
  else
    { r with
      published := .value ((r.acc + (r.window / 2 : Nat)) / (r.window : Nat)), narRuns := 0, acc := 0, count := 0
      health := .active }

/-- R6: a sample is taken, and a window that it fills closes. The flag says whether a window closed. -/
def ChanRec.deliver (x : Sample) (r : ChanRec) : ChanRec × Bool :=
  let r1 := r.take x
  if r1.window ≤ r1.count then (r1.close, true) else (r1, false)

/-- The channel became FAILED at this close (R8). -/
def becameFailed (old new : ChanRec) : Bool := decide (old.health = .active) && decide (new.health = .failed)

/-- What a publication holds for its consumers: the level-entry events of T0 to T11 with their new levels, the current channels
whose windows closed, and whether an inlet window closed. -/
structure Publication where
  entries : List (Fin 16 × Level) := []
  currents : List SlotNo := []
  inlet : Bool := false
  deriving DecidableEq, Repr

/-- R5: one reference's flags at a sweep end, and the SENSOR event of a first failure. -/
def Dev.checkLo (code : Nat) (d : Dev) : Dev :=
  let d1 := { d with ssu := { d.ssu with loCode := some code } }
  if 62 ≤ code ∧ code ≤ 66 then { d1 with ssu := { d1.ssu with loPass := true } }
  else if d1.ssu.loFail then d1
  else ({ d1 with ssu := { d1.ssu with loFail := true } }).raise clsSensor .reference 0 0x81 [code]

/-- R5, for REF_HI. -/
def Dev.checkHi (code : Nat) (d : Dev) : Dev :=
  let d1 := { d with ssu := { d.ssu with hiCode := some code } }
  if 4030 ≤ code ∧ code ≤ 4034 then { d1 with ssu := { d1.ssu with hiPass := true } }
  else if d1.ssu.hiFail then d1
  else ({ d1 with ssu := { d1.ssu with hiFail := true } }).raise clsSensor .reference 1 0x81 [code]

/-- R5: the reference check of a sweep passes when both references pass. -/
def refsPass (r : Readings) : Bool :=
  decide (62 ≤ r.refLo.toNat ∧ r.refLo.toNat ≤ 66) && decide (4030 ≤ r.refHi.toNat ∧ r.refHi.toNat ≤ 4034)

/-- The sample of a turn is delivered: taken and kept, or its turn comes only now and finds the channel enabled (R1, R2). -/
def Turn.delivers (t : Turn) (enabled : Bool) : Bool :=
  match t with
  | .waiting => enabled
  | .taken => true
  | _ => false

/-- R6 to R8 for Cs at a sweep end. -/
def Dev.deliverCur (sw : Sweep) (refOk : Bool) (x : Dev × Publication) (s : SlotNo) : Dev × Publication :=
  let (d, pub) := x
  let old := d.ssu.cur[s.val]
  if sw.cur[s.val].delivers old.enabled then
    let (new, closed) := old.deliver (curSample refOk sw.readings.cur[s.val])
    let d1 := d.modCur s fun _ => new
    let d2 := if becameFailed old new then d1.raise clsSensor .channel s.val 0x82 [] else d1
    (d2, if closed then { pub with currents := pub.currents ++ [s] } else pub)
  else (d, pub)

/-- The alert class of a level entry (R12). -/
def levelClass : Level → Fin 11
  | .shutdown => clsShutdown
  | .critical => clsCritical
  | _ => clsWarning

/-- R11, R12: the level of Ti evaluated after a close that publishes `a`; a rise is a level-entry event. -/
def Dev.judgeLevel (i : Fin 16) (a : Int) (x : Dev × Publication) : Dev × Publication :=
  let (d, pub) := x
  let t := d.ssu.limits[i.val]
  let new := t.judge a
  let d1 := d.modLimits i fun r => { r with level := new }
  if t.level.code < new.code then
    (d1.raise (levelClass new) .channel (tempCode i) 0x01 [new.code, t.level.code, a],
      if i.val < 12 then { pub with entries := pub.entries ++ [(i, new)] } else pub)
  else (d1, pub)

/-- R6 to R8 for Ti at a sweep end. -/
def Dev.deliverTemp (sw : Sweep) (x : Dev × Publication) (i : Fin 16) : Dev × Publication :=
  let (d, pub) := x
  let old := d.ssu.temp[i.val]
  if sw.temp[i.val].delivers old.enabled then
    let (new, closed) := old.deliver (tempSample sw.readings.temp[i.val])
    let d1 := d.modTemp i fun _ => new
    let d2 := if becameFailed old new then d1.raise clsSensor .channel (tempCode i) 0x82 [] else d1
    (d2, if closed ∧ i.val < 2 then { pub with inlet := true } else pub)
  else (d, pub)

/-- The levels of the channels whose window closed with a value, after every average is in place (R2). -/
def Dev.deliverLevel (sw : Sweep) (before : Vector ChanRec 16) (x : Dev × Publication) (i : Fin 16) : Dev × Publication :=
  let old := before[i.val]
  if sw.temp[i.val].delivers old.enabled then
    match (old.deliver (tempSample sw.readings.temp[i.val])) with
    | (new, true) =>
      match new.published with
      | .value a => Dev.judgeLevel i a x
      | _ => x
    | _ => x
  else x

/-- R64: the SPC judges a window of Cs that closed while slot s is POWERED. -/
def Dev.judgeCurrent (s : SlotNo) (d : Dev) : Dev :=
  let r := d.slot s
  if r.state = .powered then
    match d.ssu.cur[s.val].published with
    | .value v =>
      if (r.limit : Int) < v then
        let d1 := d.modSlot s fun r => { r with ocCount := r.ocCount + 1 }
        if r.ocDelay < r.ocCount + 1 then d1.slotFault s .overcurrent else d1
      else d.modSlot s fun r => { r with ocCount := 0 }
    | _ => d
  else d

/-- R70: the SPC's action on a level-entry event of T0 to T11. -/
def Dev.levelAction (i : Fin 16) (new : Level) (d : Dev) : Dev :=
  if h : 4 ≤ i.val ∧ i.val < 12 then
    let s : SlotNo := ⟨i.val - 4, by omega⟩
    match new with
    | .critical => d.holdPorts s
    | .shutdown => (d.holdPorts s).powerOff s .thermal
    | _ => d
  else if i.val < 4 ∧ new = .shutdown then d.powerOffAll .thermal
  else d

/-- One consumer's reaction to the publication. -/
def Dev.react (pub : Publication) (d : Dev) : PubAction → Dev
  | .budget => d.evaluate
  | .level i =>
    match pub.entries.find? fun e => e.1 = i with
    | some e => d.levelAction i e.2
    | none => d
  | .current s => d.judgeCurrent s

/-- The reactions a publication calls for, in a fixed order. -/
def Publication.todo (pub : Publication) : List PubAction :=
  pub.entries.map (fun e => .level e.1) ++ pub.currents.map .current ++ if pub.inlet then [.budget] else []

/-- The reactions in the order asked for; what is left out follows in the fixed order (entry 7). -/
def arrange : List PubAction → List PubAction → List PubAction
  | [], todo => todo
  | a :: as, todo => if todo.contains a then a :: arrange as (todo.erase a) else arrange as todo

/-- R2: the end of a sweep. Its alert events come REF_LO before REF_HI (R5), then C0 to C7 and T0 to T15 that became FAILED (R8),
then the level entries by ascending channel (R12); the rules give no order (entry 27). That its faults and reactions share this one
event, where R65 handles a fault in its own event, is the model's choice (entry 32). -/
def Dev.endSweep (order : List PubAction) (d : Dev) : Dev :=
  match d.ssu.sweep with
  | none => d
  | some sw =>
    let d1 := { d with ssu := { d.ssu with sweep := none } }
    let d2 := (d1.checkLo sw.readings.refLo.toNat).checkHi sw.readings.refHi.toNat
    let x := (List.finRange 8).foldl (Dev.deliverCur sw (refsPass sw.readings)) (d2, {})
    let y := (List.finRange 16).foldl (Dev.deliverTemp sw) x
    let z := (List.finRange 16).foldl (Dev.deliverLevel sw d.ssu.temp) y
    (arrange order z.2.todo).foldl (Dev.react z.2) z.1

def execSweepEnd (order : List PubAction) (s : State) : Host.Outcome State Fault Refusal := s.event (Dev.endSweep order)

/-! ## SENSOR READ (R14) -/

/-- The roles of section 1.1, numbered in the order of its table (R187): feed current 1, inlet 2, outlet 3, slot 4, supply 5. -/
def chanRole : Chan → Nat
  | .c _ => 1
  | .t i => if i.val < 2 then 2 else if i.val < 4 then 3 else if i.val < 12 then 4 else 5

/-- The Channel record of section 12.5. -/
def Dev.channelItems (d : Dev) (c : Chan) : List Item :=
  match c with
  | .c s =>
    let r := d.ssu.cur[s.val]
    [u8 s.val, u8 (chanRole c), flag r.enabled, u8 r.k.val, u8 r.count, flag r.poisoned, curItem r.recent,
      curItem r.published, u8 r.narRuns, u8 r.health.code]
  | .t i =>
    let r := d.ssu.temp[i.val]
    let t := d.ssu.limits[i.val]
    [u8 (tempCode i), u8 (chanRole c), flag r.enabled, u8 r.k.val, u8 r.count, flag r.poisoned, tempItem r.recent,
      tempItem r.published, u8 r.narRuns, u8 r.health.code,
      i16 t.warning, i16 t.critical, i16 t.shutdown, u8 t.hyst.toNat, u8 t.level.code]

def sensorRead (_ : Option Cond) (b : List Byte) (d : Dev) : Dev × Answer :=
  match chanOf (ufld b 0 1) with
  | some c => (d, .now .ok fun d => d.channelItems c)
  | none => refused d .badValue

def execSensorRead (l : Link) (s : State) : Host.Outcome State Fault Refusal := serve 0x10#8 l sensorRead s

/-! ## SENSOR CONFIGURE (R15, R9, R10) -/

/-- R9: the channel's enabled state; disabling discards the window in progress and what was published. -/
def ChanRec.setEnabled (v : Bool) (r : ChanRec) : ChanRec :=
  if r.enabled = v then r
  else if v then { r with enabled := true, acc := 0, count := 0, poisoned := false }
  else { r with enabled := false, acc := 0, count := 0, poisoned := false, recent := .absent, published := .absent,
                narRuns := 0, health := .active }

/-- R10: a change of the averaging exponent discards the window in progress. -/
def ChanRec.setK (k : Fin 4) (r : ChanRec) : ChanRec :=
  if r.k = k then r else { r with k := k, acc := 0, count := 0, poisoned := false }

/-- R2: the sample of a channel disabled after its turn is discarded. -/
def Turn.lose (t : Turn) : Turn := if t = .taken then .lost else t

/-- The sample that the sweep in progress holds for a channel is discarded (R2). -/
def Dev.loseSample (c : Chan) (d : Dev) : Dev :=
  match d.ssu.sweep with
  | none => d
  | some sw =>
    let sw1 := match c with
      | .c s => { sw with cur := modAt sw.cur s Turn.lose }
      | .t i => { sw with temp := modAt sw.temp i Turn.lose }
    { d with ssu := { d.ssu with sweep := some sw1 } }

/-- The channel's record. -/
def Dev.chan (d : Dev) : Chan → ChanRec
  | .c s => d.ssu.cur[s.val]
  | .t i => d.ssu.temp[i.val]

/-- R9, R10, R42: a channel configured, after which the turns that come before the next SENSOR CONFIGURE find it so (R1); disabling
a temperature channel makes its level NORMAL, and disabling an inlet causes a budget evaluation. -/
def Dev.configureChan (c : Chan) (v : Bool) (k : Fin 4) (d : Dev) : Dev :=
  let disables := (d.chan c).enabled && !v
  let d1 := match c with
    | .c s => d.modCur s fun r => (r.setEnabled v).setK k
    | .t i =>
      let d2 := d.modTemp i fun r => (r.setEnabled v).setK k
      if disables then d2.modLimits i fun t => { t with level := .normal } else d2
  let d3 := Dev.nextTurns (if disables then d1.loseSample c else d1)
  match c with
  | .t i => if disables ∧ i.val < 2 then d3.evaluate else d3
  | .c _ => d3

def sensorConfigure (_ : Option Cond) (b : List Byte) (d : Dev) : Dev × Answer :=
  match chanOf (ufld b 0 1), yesNoOf (ufld b 1 1) with
  | some c, some v =>
    let k : Fin 4 := ⟨min 3 (ufld b 2 1), by omega⟩
    (d.configureChan c v k,
      .now (clampStatus (3 < ufld b 2 1)) fun d => [flag (d.chan c).enabled, u8 (d.chan c).k.val])
  | _, _ => refused d .badValue

def execSensorConfigure (l : Link) (s : State) : Host.Outcome State Fault Refusal := serve 0x11#8 l sensorConfigure s

/-! ## THRESHOLD SET (R16) -/

/-- R16: the four settings the SSU holds for those asked, keeping the level. -/
def LimitRec.setThresholds (w c s h : Int) (t : LimitRec) : LimitRec :=
  let w1 := clampI (-80) 300 w
  let c1 := max (clampI (-80) 300 c) w1
  let s1 := max (clampI (-80) 300 s) c1
  { t with warning := w1, critical := c1, shutdown := s1, hyst := clampI 0 40 h }

def thresholdSet (_ : Option Cond) (b : List Byte) (d : Dev) : Dev × Answer :=
  match tempOf (ufld b 0 1) with
  | some i =>
    let (w, c, s, h) := (tfld b 1, tfld b 3, tfld b 5, (ufld b 7 1 : Int))
    let t := (d.ssu.limits[i.val]).setThresholds w c s h
    (d.modLimits i fun t => t.setThresholds w c s h,
      .now (clampStatus (t.warning ≠ w ∨ t.critical ≠ c ∨ t.shutdown ≠ s ∨ t.hyst ≠ h)) fun _ =>
        [i16 t.warning, i16 t.critical, i16 t.shutdown, u8 t.hyst.toNat])
  | none => refused d .badValue

def execThresholdSet (l : Link) (s : State) : Host.Outcome State Fault Refusal := serve 0x12#8 l thresholdSet s

/-! ## REFERENCE STATUS (R17) -/

/-- The four flags in R17's order, each a byte, set 1 and clear 0 (R187, section 12.3). -/
def Ssu.refFlags (u : Ssu) : List Item := [flag u.loPass, flag u.loFail, flag u.hiPass, flag u.hiFail]

/-- The flags named by a clear selection become clear. -/
def Ssu.clearRefs (sel : Nat) (u : Ssu) : Ssu :=
  { u with
    loPass := u.loPass && !sel.testBit 0, loFail := u.loFail && !sel.testBit 1
    hiPass := u.hiPass && !sel.testBit 2, hiFail := u.hiFail && !sel.testBit 3 }

/-- REFERENCE STATUS (R17). A reference code goes in two bytes, 0xFFFF while there is none (entry 11). -/
def referenceStatus (_ : Option Cond) (b : List Byte) (d : Dev) : Dev × Answer :=
  let sel := ufld b 0 1
  if 16 ≤ sel then refused d .badValue
  else
    ({ d with ssu := d.ssu.clearRefs sel },
      .now .ok fun _ => d.ssu.refFlags ++ [opt16 d.ssu.loCode, opt16 d.ssu.hiCode])

def execReferenceStatus (l : Link) (s : State) : Host.Outcome State Fault Refusal := serve 0x13#8 l referenceStatus s

end Sys2Proof.Machine
end

