-- ==== Sys2Proof/Machine/Slots.lean ====
section
/-! DEFINITION. The commands of the Slot Power Controller (04_slot_power_and_protection.md): the slot lines and timers, the slot
links with the slot return (R69), the optics (R88, R89) and the acknowledgements (R148, R151) their frames bring, and the five
requests. -/

namespace Sys2Proof.Machine

/-! ## The slot lines -/

def Dev.setSlotPresence (s : SlotNo) (v : Bool) (d : Dev) : Dev :=
  { d with lines := { d.lines with slotPresence := modAt d.lines.slotPresence s fun _ => v } }

def Dev.setSlotPowerGood (s : SlotNo) (v : Bool) (d : Dev) : Dev :=
  { d with lines := { d.lines with slotPowerGood := modAt d.lines.slotPowerGood s fun _ => v } }

def Dev.setHotSwap (s : SlotNo) (v : Bool) (d : Dev) : Dev :=
  { d with lines := { d.lines with hotSwap := modAt d.lines.hotSwap s fun _ => v } }

/-- SLOT_PRESENCE_RISE (R57): an EMPTY slot becomes OFF, its cause kept. -/
def Dev.slotArrives (s : SlotNo) (d : Dev) : Dev :=
  if (d.slot s).state = .empty then (d.modSlot s fun r => { r with state := .off, present := true }).stampSlot s else d

def execSlotPresenceRise (s : SlotNo) (st : State) : Host.Outcome State Fault Refusal :=
  st.lineEvent (Dev.setSlotPresence s true) (Dev.slotArrives s)

/-- SLOT_REMOVAL (R72). -/
def execSlotRemoval (s : SlotNo) (st : State) : Host.Outcome State Fault Refusal :=
  st.lineEvent (Dev.setSlotPresence s false) (Dev.removeSlot s)

/-- SLOT_POWER_GOOD_RISE (R61). -/
def Dev.slotGoodRise (s : SlotNo) (d : Dev) : Dev := if (d.slot s).state = .powering then d.enterPowered s else d

def execSlotPowerGoodRise (s : SlotNo) (st : State) : Host.Outcome State Fault Refusal :=
  st.lineEvent (Dev.setSlotPowerGood s true) (Dev.slotGoodRise s)

/-- SLOT_POWER_GOOD_FALL (R63): not acted on while POWERING (R62). -/
def Dev.slotGoodFall (s : SlotNo) (d : Dev) : Dev := if (d.slot s).state = .powered then d.slotFault s .pgood else d

def execSlotPowerGoodFall (s : SlotNo) (st : State) : Host.Outcome State Fault Refusal :=
  st.lineEvent (Dev.setSlotPowerGood s false) (Dev.slotGoodFall s)

/-- HOT_SWAP_FAULT_ASSERT (R63). -/
def Dev.hotSwapFault (s : SlotNo) (d : Dev) : Dev :=
  if (d.slot s).state = .powering ∨ (d.slot s).state = .powered then d.slotFault s .hotswap else d

def execHotSwapFaultAssert (s : SlotNo) (holds : Bool) (st : State) : Host.Outcome State Fault Refusal :=
  st.lineEvent (Dev.setHotSwap s holds) (Dev.hotSwapFault s)

/-! ## The slot timers -/

/-- RAMP_TIMER_EXPIRY (R62). -/
def Dev.rampEnds (s : SlotNo) (d : Dev) : Dev :=
  match (d.slot s).state, (d.slot s).ramp with
  | .powering, some t => (d.passTo t).slotFault s .ramp
  | _, _ => d

def execRampTimerExpiry (s : SlotNo) (st : State) : Host.Outcome State Fault Refusal := st.event (Dev.rampEnds s)

/-- RETRY_TIMER_EXPIRY (R66). -/
def Dev.retryEnds (s : SlotNo) (d : Dev) : Dev :=
  match (d.slot s).state, (d.slot s).retry with
  | .retryWait, some t => (d.passTo t).enqueue s
  | _, _ => d

def execRetryTimerExpiry (s : SlotNo) (st : State) : Host.Outcome State Fault Refusal := st.event (Dev.retryEnds s)

/-- STABLE_TIMER_EXPIRY (R67). -/
def Dev.stableEnds (s : SlotNo) (d : Dev) : Dev :=
  match (d.slot s).state, (d.slot s).stable with
  | .powered, some t =>
    let d1 := (d.passTo (t + 60000)).modSlot s fun r => { r with stable := none, attempts := 0 }
    if (d.slot s).attempts = 0 then d1 else d1.stampSlot s
  | _, _ => d

def execStableTimerExpiry (s : SlotNo) (st : State) : Host.Outcome State Fault Refusal := st.event (Dev.stableEnds s)

/-! ## The slot links (R74, R75) -/

def Dev.setSlotRx (s : SlotNo) (r : Rx) (d : Dev) : Dev := d.modSlot s fun x => { x with rx := r }

/-- R75: a health count of 128 or more makes the slot passive. -/
def Dev.passiveStarts (s : SlotNo) (d : Dev) : Dev :=
  let r := d.slot s
  if 128 ≤ r.health && !r.passive then
    ((d.modSlot s fun r => { r with passive := true }).callEdu).raise clsSlot .slot s.val 0x44 [r.health]
  else d

/-- R74: a bad frame, whole or cut off at a gap. -/
def Dev.slotBadFrame (s : SlotNo) (d : Dev) : Dev :=
  let d0 := d.setSlotRx s .idle
  if (d.slot s).state = .powered then
    let old := (d.slot s).health
    let new := min 255 (old + 8)
    let d1 := d0.modSlot s fun r => { r with health := new }
    let d2 := if old < 96 ∧ 96 ≤ new then d1.raise clsSlot .slot s.val 0x43 [new] else d1
    d2.passiveStarts s
  else d0

/-- R75: passive ends when the count is at most 95 and the last acknowledged generation is the current one. -/
def Dev.passiveEnds (s : SlotNo) (d : Dev) : Dev :=
  let r := d.slot s
  if r.passive && decide (r.health ≤ 95) && decide ((d.step s).acked = some d.perm.gen) then
    (d.modSlot s fun r => { r with passive := false }).callEdu
  else d

/-- R69: the judgement of one SUSPENDED port at the slot's return, against the pair the frame reports. -/
def Dev.returnPort (s : SlotNo) (optics : Vector (Option (Fin 4)) 8) (d : Dev) (i : Fin 8) : Dev :=
  let p := portAt s i
  let r := d.port p
  if r.state = .suspended then
    if optics[i.val] ≠ r.seated then d.offline p .optic
    else if d.slotHot s then d.idlePort p .held
    else if d.fits r.power then d.toActive p
    else d.toShed p
  else d

/-- R88, R89: one pair handed to the PTC. -/
def Dev.applyPair (s : SlotNo) (optics : Vector (Option (Fin 4)) 8) (d : Dev) (i : Fin 8) : Dev :=
  let p := portAt s i
  let r := d.port p
  let judged := decide (r.state = .active) || decide (r.state = .shed) || decide (r.state = .held)
  let d1 := if judged && decide (optics[i.val] ≠ r.seated) then d.offline p .optic else d
  d1.setOptic p optics[i.val]

/-- R68: a SLOT STATUS frame of a POWERED slot. -/
def Dev.statusFrame (s : SlotNo) (optics : Vector (Option (Fin 4)) 8) (d : Dev) : Dev :=
  let first := !(d.slot s).statusSeen
  let d1 := d.modSlot s fun r => { r with statusSeen := true }
  let d2 := if first then (List.finRange 8).foldl (Dev.returnPort s optics) d1 else d1
  (List.finRange 8).foldl (Dev.applyPair s optics) d2

/-- R148, R151: the sent generation is acknowledged, in time or late. -/
def Dev.acceptAck (s : SlotNo) (d : Dev) : Dev :=
  ((d.modStep s fun r => { r with state := .inStep, acked := r.sent, response := none, resend := none }).callEdu).passiveEnds s

/-- R148, R151, R152: an acknowledgement judged by the generation it carries. -/
def Dev.ackFrame (s : SlotNo) (gen : Nat) (d : Dev) : Dev :=
  let r := d.step s
  if (r.state = .sending ∨ r.state = .outOfStep) ∧ r.sent = some gen then d.acceptAck s else d

/-- R74, R75: a good frame; from a slot that is not POWERED it is discarded without being counted. -/
def Dev.slotGoodFrame (s : SlotNo) (f : Frame) (d : Dev) : Dev :=
  let d0 := d.setSlotRx s .idle
  if (d.slot s).state = .powered then
    let d1 := (d0.modSlot s fun r => { r with health := r.health - 1 }).passiveEnds s
    match slotFrameOf f with
    | .status optics => d1.statusFrame s optics
    | .ack gen => d1.ackFrame s gen
    | .other => d1
  else d0

/-- A frame's bytes arrive on a slot link (entry 19). -/
def Dev.slotWire (s : SlotNo) (wire : List Byte) (d : Dev) : Dev :=
  match arrival wire with
  | .good f => d.slotGoodFrame s f
  | .bad => d.slotBadFrame s
  | .unfinished => d.setSlotRx s .inFrame

def execSlotLinkBadFrame (s : SlotNo) (st : State) : Host.Outcome State Fault Refusal := st.event (Dev.slotBadFrame s)

/-- R74: a gap of more than 2 ms inside a frame; an idle receiver has no frame to cut off. -/
def Dev.slotGap (s : SlotNo) (d : Dev) : Dev := if (d.slot s).rx = .inFrame then d.slotBadFrame s else d

def execSlotLinkGapTimeout (s : SlotNo) (st : State) : Host.Outcome State Fault Refusal := st.event (Dev.slotGap s)

def execSlotStatus (s : SlotNo) (wire : List Byte) (st : State) : Host.Outcome State Fault Refusal :=
  st.event (Dev.slotWire s wire)

def execUpdateAck (s : SlotNo) (wire : List Byte) (st : State) : Host.Outcome State Fault Refusal :=
  st.event (Dev.slotWire s wire)

def execSlotLinkOtherFrame (s : SlotNo) (wire : List Byte) (st : State) : Host.Outcome State Fault Refusal :=
  st.event (Dev.slotWire s wire)

/-! ## SLOT POWER ON (R59) -/

/-- R59, step 4: an admitted slot. -/
def Dev.admitSlot (s : SlotNo) (d : Dev) : Dev :=
  let base := (d.slot s).base
  (((d.commit base).setHeld s (some base)).modSlot s fun r => { r with attempts := 0 }).enqueue s

def slotPowerOn (_ : Option Cond) (b : List Byte) (d : Dev) : Dev × Answer :=
  match idOf 8 (ufld b 0 1) with
  | some s =>
    if (d.slot s).state ≠ .off then refused d .wrongState
    else if d.powerOnBarred s then refused d .wrongState
    else if d.fits (d.slot s).base then
      (d.admitSlot s, .now .ok fun d => [u8 (d.slot s).state.code, opt8 (placeIn s d.spc.queue)])
    else refused d .budget
  | none => refused d .badValue

def execSlotPowerOn (l : Link) (s : State) : Host.Outcome State Fault Refusal := serve 0x29#8 l slotPowerOn s

/-! ## SLOT POWER OFF, SLOT UNLOCK (R76) -/

/-- The slot's state and cause, as R76's replies carry them. -/
def stateCause (s : SlotNo) (d : Dev) : List Item :=
  [u8 (d.slot s).state.code, opt8 ((d.slot s).cause.map SlotCause.code)]

/-- R76: a LOCKED_OUT slot becomes OFF, its cause kept. -/
def Dev.unlock (s : SlotNo) (d : Dev) : Dev :=
  (d.modSlot s fun r => { r with state := .off, attempts := 0 }).stampSlot s

def slotPowerOff (_ : Option Cond) (b : List Byte) (d : Dev) : Dev × Answer :=
  match idOf 8 (ufld b 0 1) with
  | some s =>
    if (d.slot s).state.holdsBase then (d.powerOff s .host, .now .ok (stateCause s))
    else if (d.slot s).state = .lockedOut then (d.unlock s, .now .ok (stateCause s))
    else (d, .now .wrongState (stateCause s))
  | none => refused d .badValue

def execSlotPowerOff (l : Link) (s : State) : Host.Outcome State Fault Refusal := serve 0x2A#8 l slotPowerOff s

def slotUnlock (_ : Option Cond) (b : List Byte) (d : Dev) : Dev × Answer :=
  match idOf 8 (ufld b 0 1) with
  | some s =>
    if (d.slot s).state = .lockedOut then (d.unlock s, .now .ok (stateCause s))
    else (d, .now .wrongState (stateCause s))
  | none => refused d .badValue

def execSlotUnlock (l : Link) (s : State) : Host.Outcome State Fault Refusal := serve 0x2B#8 l slotUnlock s

/-! ## SLOT CONFIGURE (R78) -/

/-- R78: the settings replaced; a changed record takes a stamp, and the end of the protection of a held base causes an
evaluation (R48). -/
def Dev.configureSlot (s : SlotNo) (new : SlotRec) (d : Dev) : Dev :=
  let old := d.slot s
  let d1 := if new = old then d else (d.modSlot s fun _ => new).stampSlot s
  if old.prot && !new.prot && old.state.holdsBase then d1.evaluate else d1

def slotConfigure (_ : Option Cond) (b : List Byte) (d : Dev) : Dev × Answer :=
  match idOf 8 (ufld b 0 1), yesNoOf (ufld b 6 1), yesNoOf (ufld b 9 1) with
  | some s, some retry, some prot =>
    let (base, limit, delay, most, wait) := (ufld b 1 2, ufld b 3 2, ufld b 5 1, ufld b 7 1, ufld b 8 1)
    let new := { d.slot s with
      base := clampN 0 800 base, limit := clampN 0 4095 limit, ocDelay := clampN 0 15 delay, retryEnable := retry
      maxAttempts := clampN 1 7 most, retryDelay := clampN 1 255 wait, prot := prot }
    (d.configureSlot s new,
      .now (clampStatus (new.base ≠ base ∨ new.limit ≠ limit ∨ new.ocDelay ≠ delay ∨ new.maxAttempts ≠ most ∨
          new.retryDelay ≠ wait)) fun d =>
        let r := d.slot s
        [u16 r.base, u16 r.limit, u8 r.ocDelay, flag r.retryEnable, u8 r.maxAttempts, u8 r.retryDelay, flag r.prot,
          u8 r.state.code])
  | _, _, _ => refused d .badValue

def execSlotConfigure (l : Link) (s : State) : Host.Outcome State Fault Refusal := serve 0x28#8 l slotConfigure s

/-! ## SLOT READ (R79) -/

/-- The SLOT record of section 12.5. -/
def Dev.slotItems (d : Dev) (s : SlotNo) : List Item :=
  let r := d.slot s
  [u8 s.val, flag r.present, u8 r.state.code, opt8 (r.cause.map SlotCause.code), u16 r.base, u16 r.limit, u8 r.ocDelay,
    flag r.retryEnable, u8 r.maxAttempts, u8 r.attempts, u8 r.retryDelay, flag r.prot, u48 r.stamp]

def Dev.slotReadItems (s : SlotNo) (d : Dev) : List Item :=
  let r := d.slot s
  d.slotItems s ++
    [opt16 (d.heldBase s), opt8 (placeIn s d.spc.queue), u32 (d.left r.ramp), u32 (d.left r.retry),
      u32 ((r.stable.map fun t => d.now - t).getD 0), u16 r.ocCount, curItem d.ssu.cur[s.val].published,
      u8 (d.level (tempOfSlot s)).code, flag r.statusSeen, u16 r.health, flag r.passive]

def slotRead (_ : Option Cond) (b : List Byte) (d : Dev) : Dev × Answer :=
  match idOf 8 (ufld b 0 1) with
  | some s => (d, .now .ok (Dev.slotReadItems s))
  | none => refused d .badValue

def execSlotRead (l : Link) (s : State) : Host.Outcome State Fault Refusal := serve 0x2C#8 l slotRead s

end Sys2Proof.Machine
end

