-- ==== Sys2Proof/Machine/Zoning.lean ====
section
/-! DEFINITION. The commands of the Zoning Engine (07_zoning.md): the six zone-set requests of section 7.2, and the requests on
node attachments and the reads. The compile itself stands in BudgetOps.lean, at the end of an event. -/

namespace Sys2Proof.Machine

/-! ## The zone-set requests (section 7.2) -/

/-- The assembly buffer made EMPTY (R130). -/
def Dev.dropAssembly (d : Dev) : Dev := { d with zne := { d.zne with assembly := none } }

/-- Whether the request discarded an assembly, and the zone id of that assembly (R130, section 12.3). -/
def discardItems : Option Assembly → List Item
  | none => [u8 0, u16 0]
  | some a => [u8 1, u16 a.id]

/-- A zone-set request's reply: the contents its rule names, then the discard of the assembly the request found (R130). -/
def zoneAnswer (d : Dev) (st : Status) (items : List Item) : Answer := .now st fun _ => items ++ discardItems d.zne.assembly

/-- A zone-set request refused by the ZNE: an assembly in progress is discarded all the same (R130). -/
def zoneRefused (d : Dev) (st : Status) : Dev × Answer := (d.dropAssembly, zoneAnswer d st [])

def Dev.setStaged (s : Option Staged) (d : Dev) : Dev := { d with zne := { d.zne with staged := s, assembly := none } }

/-- The zones of the active set without their stamps. -/
def Zne.activeZones (z : Zne) : List Zone := z.zones.map (·.zone)

/-- ZONE BEGIN (R127). -/
def zoneBegin (_ : Option Cond) (_ : List Byte) (d : Dev) : Dev × Answer :=
  match d.zne.staged with
  | some _ => zoneRefused d .wrongState
  | none =>
    let zs := d.zne.activeZones
    (d.setStaged (some ⟨zs, d.zne.mode, d.zne.gen⟩), zoneAnswer d .ok [u32 d.zne.gen, u16 zs.length, u16 (entriesOf zs)])

def execZoneBegin (l : Link) (s : State) : Host.Outcome State Fault Refusal := serve 0x40#8 l zoneBegin s

/-- R128, checks 1 and 2: a part's identifiers and members. -/
def partMembers (id index count n : Nat) (b : List Byte) : Option (List Member) :=
  if id = 0 ∨ count < 1 ∨ 8 < count ∨ count ≤ index ∨ 48 < n then none else membersOf b n

/-- R128, checks 3 and 4: the assembly that a part is added to, or none at a break in sequence. -/
def assemblyFor (a : Option Assembly) (id index count : Nat) : Option Assembly :=
  if index = 0 then some ⟨id, count, 0, []⟩
  else
    match a with
    | some a => if a.id = id ∧ a.parts = count ∧ a.next = index then some a else none
    | none => none

/-- The assembly a passing part discards: the one in the buffer, unless the part continues it (R130). -/
def discardedBy (a : Option Assembly) (index : Nat) : Option Assembly := if index = 0 then a else none

/-- R129: the zone of a complete assembly judged whole: the staged set with the zone, or the status of the refusal. -/
def judgeZone (st : Staged) (z : Zone) : Except Status Staged :=
  if z.members.Nodup then
    if z.members.length < 1 ∨ 64 < z.members.length then .error .tooLarge
    else
      let zs := insertZone z st.zones
      if 128 < zs.length ∨ 2048 < entriesOf zs then .error .tooLarge else .ok { st with zones := zs }
  else .error .duplicate

/-- ZONE PUT (R128, R129). -/
def zonePut (_ : Option Cond) (b : List Byte) (d : Dev) : Dev × Answer :=
  let (id, index, count, n) := (ufld b 0 2, ufld b 2 1, ufld b 3 1, ufld b 4 1)
  match d.zne.staged with
  | none => zoneRefused d .noTransaction
  | some st =>
    match partMembers id index count n b, assemblyFor d.zne.assembly id index count with
    | some ms, some a =>
      let a1 : Assembly := { a with next := index + 1, members := a.members ++ ms }
      let tail := discardItems (discardedBy d.zne.assembly index)
      if index + 1 < count then
        ({ d with zne := { d.zne with assembly := some a1 } },
          .now .ok fun _ => [u16 id, u8 a1.next, u16 a1.members.length] ++ tail)
      else
        match judgeZone st ⟨id, a1.members⟩ with
        | .error e => (d.dropAssembly, .now e fun _ => tail)
        | .ok st1 =>
          (d.setStaged (some st1),
            .now .ok fun _ =>
              [u16 id, flag (st.zones.any fun z => z.id = id), u16 st1.zones.length, u16 (entriesOf st1.zones)] ++ tail)
    | _, _ => zoneRefused d .badValue

def execZonePut (l : Link) (s : State) : Host.Outcome State Fault Refusal := serve 0x41#8 l zonePut s

/-- ZONE DELETE (R131). -/
def zoneDelete (_ : Option Cond) (b : List Byte) (d : Dev) : Dev × Answer :=
  let id := ufld b 0 2
  match d.zne.staged with
  | none => zoneRefused d .noTransaction
  | some st =>
    if id = 0 then zoneRefused d .badValue
    else if st.zones.any fun z => z.id = id then
      let zs := st.zones.filter fun z => z.id ≠ id
      (d.setStaged (some { st with zones := zs }), zoneAnswer d .ok [u16 zs.length, u16 (entriesOf zs)])
    else zoneRefused d .notFound

def execZoneDelete (l : Link) (s : State) : Host.Outcome State Fault Refusal := serve 0x42#8 l zoneDelete s

/-- ZONE DEFAULT (R131). -/
def zoneDefault (_ : Option Cond) (b : List Byte) (d : Dev) : Dev × Answer :=
  match d.zne.staged with
  | none => zoneRefused d .noTransaction
  | some st =>
    match accessOf (ufld b 0 1) with
    | none => zoneRefused d .badValue
    | some m => (d.setStaged (some { st with mode := m }), zoneAnswer d .ok [])

def execZoneDefault (l : Link) (s : State) : Host.Outcome State Fault Refusal := serve 0x43#8 l zoneDefault s

/-- ZONE ABORT (R132). -/
def zoneAbort (_ : Option Cond) (_ : List Byte) (d : Dev) : Dev × Answer :=
  match d.zne.staged with
  | none => zoneRefused d .noTransaction
  | some _ => (d.setStaged none, zoneAnswer d .ok [])

def execZoneAbort (l : Link) (s : State) : Host.Outcome State Fault Refusal := serve 0x44#8 l zoneAbort s

/-! ## ZONE COMMIT (R133) -/

/-- R125: the staged zones as active zones, each with the stamp it keeps or the next one, and the counter after them. -/
def commitZones (active : List ActiveZone) : List Zone → Nat → List ActiveZone × Nat
  | [], next => ([], next)
  | z :: zs, next =>
    match active.find? fun a => a.zone.id = z.id ∧ a.zone.members = z.members with
    | some a => let r := commitZones active zs next; (⟨z, a.stamp⟩ :: r.1, r.2)
    | none => let r := commitZones active zs (nextStamp next); (⟨z, next⟩ :: r.1, r.2)

/-- R133: the staged set becomes active. -/
def Dev.commitSet (st : Staged) (d : Dev) : Dev :=
  let r := commitZones d.zne.zones st.zones d.wtb.next
  { d with
    zne := { d.zne with
      zones := r.1, mode := st.mode, gen := nextGen d.zne.gen, stamp := r.2, staged := none, assembly := none }
    wtb := { d.wtb with next := nextStamp r.2 }
    work := { d.work with compile := true } }

def zoneCommit (_ : Option Cond) (_ : List Byte) (d : Dev) : Dev × Answer :=
  match d.zne.staged with
  | none => zoneRefused d .noTransaction
  | some st =>
    let d1 := d.commitSet st
    (d1, zoneAnswer d .ok [u32 d1.zne.gen, u48 d1.zne.stamp, u16 st.zones.length, u16 (entriesOf st.zones)])

def execZoneCommit (l : Link) (s : State) : Host.Outcome State Fault Refusal := serve 0x45#8 l zoneCommit s

/-! ## ZONE READ (R140) -/

/-- The zones of the set a read names, with the stamps the active ones carry, and the set's default access mode; none when the
staged set is named while the transaction is CLOSED. -/
def Zne.readSet (z : Zne) (staged : Bool) : Option (List (Zone × Option Nat) × AccessMode) :=
  if staged then z.staged.map fun s => (s.zones.map fun y => (y, none), s.mode)
  else some (z.zones.map fun a => (a.zone, some a.stamp), z.mode)

def assemblyItems : Option Assembly → List Item
  | none => [u8 0]
  | some a => [u8 1, u16 a.id, u8 a.parts, u8 a.next, u16 a.members.length]

/-- R140, SET. -/
def Zne.setItems (z : Zne) (staged : Bool) (zs : List Zone) (mode : AccessMode) : List Item :=
  [u8 mode.code, u8 zs.length, u16 (entriesOf zs)] ++ zs.flatMap (fun y => [u16 y.id, u8 y.members.length]) ++
    (if staged then [] else [u32 z.gen, u48 z.stamp]) ++
    match z.staged with
    | none => [u8 0]
    | some st => [u8 1, u32 st.baseGen] ++ assemblyItems z.assembly

/-- R140, ZONE. -/
def zoneReadItems (y : Zone) (stamp : Option Nat) (first : Nat) : List Item :=
  let shown := (y.members.drop first).take 48
  [u8 y.members.length, u16 shown.length] ++ shown.flatMap memberItems ++ (stamp.map u48).toList ++
    [flag (decide (first + 48 < y.members.length))]

/-- ZONE READ (R140). The staged set while CLOSED is refused with NO_TRANSACTION, whatever the zone id, before a zone id of 0 with
BAD_VALUE: the rule gives no order, and this one is the model's choice (entry 34). -/
def zoneRead (_ : Option Cond) (b : List Byte) (d : Dev) : Dev × Answer :=
  let (sel, set, id, first) := (ufld b 0 1, ufld b 1 1, ufld b 2 2, ufld b 4 1)
  if 1 < sel ∨ 1 < set then refused d .badValue
  else
    match d.zne.readSet (set = 1) with
    | none => refused d .noTransaction
    | some (zs, mode) =>
      if sel = 0 then (d, .now .ok fun d => d.zne.setItems (set = 1) (zs.map (·.1)) mode)
      else if id = 0 then refused d .badValue
      else
        match zs.find? fun y => y.1.id = id with
        | none => refused d .notFound
        | some (y, stamp) => (d, .now .ok fun _ => zoneReadItems y stamp first)

def execZoneRead (l : Link) (s : State) : Host.Outcome State Fault Refusal := serve 0x46#8 l zoneRead s

/-! ## NODE ATTACH (R134), NODE DETACH (R135) -/

def Dev.nodeEntry (d : Dev) (n : Nat) : Option NodeEntry := d.zne.nodes.find? fun e => e.node = n

/-- An entry made or moved, with a new stamp (R134). -/
def Dev.attach (n : Nat) (p : PortNo) (d : Dev) : Dev :=
  (({ d with zne := { d.zne with nodes := insertNode ⟨n, p, d.wtb.next⟩ d.zne.nodes } }).useStamp).touchNode n

/-- The reply to an entry made or moved: its port, its stamp, and the port it was moved from (R134). -/
def attachAnswer (d : Dev) (p : PortNo) (from_ : Option Nat) : Answer := .now .ok fun _ => [u8 p.val, u48 d.wtb.next, opt8 from_]

def nodeAttach (_ : Option Cond) (b : List Byte) (d : Dev) : Dev × Answer :=
  let n := ufld b 0 8
  match idOf 64 (ufld b 8 1) with
  | none => refused d .badValue
  | some p =>
    if n = 0 then refused d .badValue
    else if (d.port p).state ≠ .active then refused d .wrongState
    else
      match d.nodeEntry n with
      | some e => if e.port = p then (d, refuse .ok) else (d.attach n p, attachAnswer d p (some e.port.val))
      | none =>
        if 256 ≤ d.zne.nodes.length then refused d .tableFull else (d.attach n p, attachAnswer d p none)

def execNodeAttach (l : Link) (s : State) : Host.Outcome State Fault Refusal := serve 0x47#8 l nodeAttach s

/-- An entry removed (R135). -/
def Dev.detach (n : Nat) (d : Dev) : Dev :=
  ({ d with zne := { d.zne with nodes := d.zne.nodes.filter fun e => e.node ≠ n } }).touchNode n

def nodeDetach (_ : Option Cond) (b : List Byte) (d : Dev) : Dev × Answer :=
  let n := ufld b 0 8
  if n = 0 then refused d .badValue
  else
    match d.nodeEntry n with
    | none => refused d .notFound
    | some e => (d.detach n, .now .ok fun _ => [u8 e.port.val])

def execNodeDetach (l : Link) (s : State) : Host.Outcome State Fault Refusal := serve 0x48#8 l nodeDetach s

/-! ## NODE READ (R141) -/

/-- The NODE record of section 12.5. -/
def NodeEntry.items (e : NodeEntry) : List Item := [u64 e.node, u8 e.port.val, u48 e.stamp]

def Dev.portNodes (d : Dev) (p : PortNo) : List Item :=
  let es := d.zne.nodes.filter fun e => e.port = p
  u16 (min 30 es.length) :: (es.take 30).map (fun e => u64 e.node) ++
    [flag (decide (30 < es.length)), flag (decide ((d.port p).state = .active))]

def Dev.allNodes (d : Dev) (first : Nat) : List Item :=
  let es := d.zne.nodes.filter fun e => first ≤ e.node
  u16 (min 30 es.length) :: (es.take 30).flatMap NodeEntry.items ++
    [u16 d.zne.nodes.length, flag (decide (30 < es.length))]

def nodeRead (_ : Option Cond) (b : List Byte) (d : Dev) : Dev × Answer :=
  let v := ufld b 1 8
  match ufld b 0 1 with
  | 0 =>
    if v = 0 then refused d .badValue
    else
      match d.nodeEntry v with
      | none => refused d .notFound
      | some e => (d, .now .ok fun _ => e.items)
  | 1 =>
    match idOf 64 v with
    | none => refused d .badValue
    | some p => (d, .now .ok fun d => d.portNodes p)
  | 2 => (d, .now .ok fun d => d.allNodes v)
  | _ => refused d .badValue

def execNodeRead (l : Link) (s : State) : Host.Outcome State Fault Refusal := serve 0x49#8 l nodeRead s

end Sys2Proof.Machine
end

