-- ==== Sys2Proof/Machine/Watches.lean ====
section
/-! DEFINITION. The commands of the Watch Table (09_watches_and_conditional_requests.md): WATCH READ, WATCH RELEASE and WATCH
LIST. The watch check of conditional requests (R163) stands in Serve.lean. -/

namespace Sys2Proof.Machine

/-- R159: the key is in range for its kind (entry 26 on the widths of ids). -/
def keyInRange : RecKind → Nat → Bool
  | .port, k => k < 64
  | .slot, k => k < 8
  | .supply, k => k < 4
  | .cert, k => decide (k ≠ 0) && decide (k < 2 ^ 32)
  | .node, k => k ≠ 0
  | .zone, k => decide (k ≠ 0) && decide (k < 2 ^ 16)
  | .zoneset, k => k = 0

/-- The SUPPLY record of section 12.5. -/
def Dev.supplyItems (d : Dev) (b : BayNo) : List Item :=
  let r := d.supply b
  [u8 b.val, u8 r.state.code, u16 r.capacity, u48 r.stamp]

/-- The ZONE record of section 12.5: the first 48 members at most. -/
def ActiveZone.items (a : ActiveZone) : List Item :=
  [u16 a.zone.id, u8 a.zone.members.length, u48 a.stamp] ++ (a.zone.members.take 48).flatMap memberItems

/-- The ZONESET record of section 12.5. -/
def Zne.zonesetItems (z : Zne) : List Item :=
  [u32 z.gen, u8 z.mode.code, u8 z.zones.length, u16 (entriesOf z.activeZones), u48 z.stamp]

/-- The reported record of a kind and key (section 12.5). -/
def Dev.recordItems (d : Dev) (k : RecKind) (key : Nat) : List Item :=
  match k with
  | .port => ((idOf 64 key).map d.portItems).getD []
  | .slot => ((idOf 8 key).map d.slotItems).getD []
  | .supply => ((idOf 4 key).map d.supplyItems).getD []
  | .cert =>
    match placeOfId d.lcu.table key with
    | some i => ((d.lcu.table[i.val]).map (certItems i)).getD []
    | none => []
  | .node => ((d.nodeEntry key).map NodeEntry.items).getD []
  | .zone => ((d.zne.zones.find? fun z => z.zone.id = key).map ActiveZone.items).getD []
  | .zoneset => d.zne.zonesetItems

/-- R158: the first id at or after the counter that no entry holds. -/
def Wtb.freeId (w : Wtb) : Nat :=
  (((List.range 255).map fun i => (w.idCounter - 1 + i) % 255 + 1).find? fun id =>
    w.entries.all fun e => e.id ≠ id).getD w.idCounter

/-- The id of the link's oldest entry when it already owns 8 (R159, step 1). -/
def Dev.evicted (d : Dev) (l : Link) : Option Nat :=
  if 8 ≤ (d.watchesOf l).length then ((d.watchesOf l).head?).map (·.id) else none

/-- R159: the entry made, after the eviction. -/
def Dev.makeWatch (l : Link) (k : RecKind) (key stamp : Nat) (d : Dev) : Dev :=
  let d1 := match d.evicted l with
    | some id => d.dropWatches fun w => w.id = id
    | none => d
  let id := d1.wtb.freeId
  { d1 with wtb := { d1.wtb with
      idCounter := id % 255 + 1, entries := d1.wtb.entries ++ [⟨id, l, k, key, stamp⟩] } }

/-- The id an entry made now takes. -/
def Dev.newWatchId (l : Link) (d : Dev) : Nat :=
  match d.evicted l with
  | some id => (d.dropWatches fun w => w.id = id).wtb.freeId
  | none => d.wtb.freeId

/-- An id that may be none: ids use 255, so a presence byte stands before it (R187). -/
def watchIdItems : Option Nat → List Item
  | none => [u8 0, u8 0]
  | some id => [u8 1, u8 id]

def watchRead (l : Link) (_ : Option Cond) (b : List Byte) (d : Dev) : Dev × Answer :=
  let key := ufld b 1 8
  match kindOf (ufld b 0 1) with
  | none => refused d .badValue
  | some k =>
    if keyInRange k key then
      match d.recordStamp k key with
      | none => refused d .notFound
      | some stamp =>
        (d.makeWatch l k key stamp,
          .now .ok fun _ =>
            [u8 (d.newWatchId l), u48 stamp] ++ watchIdItems (d.evicted l) ++ d.recordItems k key)
    else refused d .badValue

def execWatchRead (l : Link) (s : State) : Host.Outcome State Fault Refusal := serve 0x58#8 l (watchRead l) s

/-- R160: the ids of a list taken in turn: removed where an entry of the link has the id, passed over otherwise. An id
named twice is removed at the first and passed over at the second (entry 30). -/
def releaseList (owned : List Nat) : List Nat → List Nat × List Nat
  | [] => ([], [])
  | id :: ids =>
    if owned.contains id then let r := releaseList (owned.erase id) ids; (id :: r.1, r.2)
    else let r := releaseList owned ids; (r.1, id :: r.2)

/-- A release carried out: the ids removed, those passed over, and how many entries the link owns afterwards (R160). -/
def Dev.released (l : Link) (gone passed : List Nat) (d : Dev) : Dev × Answer :=
  (d.dropIds l gone,
    .now .ok fun d =>
      u16 gone.length :: gone.map u8 ++ u16 passed.length :: passed.map u8 ++ [u16 (d.watchesOf l).length])

/-- WATCH RELEASE (R160). With ALL the ids removed are listed oldest first, the model's choice (entry 30). -/
def watchRelease (l : Link) (_ : Option Cond) (b : List Byte) (d : Dev) : Dev × Answer :=
  let owned := (d.watchesOf l).map (·.id)
  let n := ufld b 1 1
  match ufld b 0 1 with
  | 0 => d.released l owned []
  | 1 =>
    let ids := ((b.drop 2).take n).map (·.toNat)
    if n = 0 ∨ 8 < n ∨ ids.contains 0 then refused d .badValue
    else
      let r := releaseList owned ids
      d.released l r.1 r.2
  | _ => refused d .badValue

def execWatchRelease (l : Link) (s : State) : Host.Outcome State Fault Refusal := serve 0x59#8 l (watchRelease l) s

/-- One entry of WATCH LIST: current, or lost with the record's present stamp or none (R161). The key goes in eight bytes for every
kind, and current is 1, lost 0 (entry 11). -/
def Dev.watchItems (d : Dev) (w : Watch) : List Item :=
  [u8 w.id, u8 w.kind.code, u64 w.key, u48 w.stamp, flag (d.current w)] ++
    if d.current w then []
    else
      match d.recordStamp w.kind w.key with
      | some st => [u8 1, u48 st]
      | none => [u8 0, u48 0]

def watchList (l : Link) (_ : Option Cond) (_ : List Byte) (d : Dev) : Dev × Answer :=
  (d, .now .ok fun d => u16 (d.watchesOf l).length :: (d.watchesOf l).flatMap d.watchItems)

def execWatchList (l : Link) (s : State) : Host.Outcome State Fault Refusal := serve 0x5A#8 l (watchList l) s

end Sys2Proof.Machine
end

