-- ==== Sys2Proof/Machine/Dispatch.lean ====
section
/-! DEFINITION. The dispatch: one arm per command, each one call of its meaning. -/

namespace Sys2Proof.Machine

open Sys2Proof

def exec (i : Instr) (s : State) : Host.Outcome State Fault Refusal :=
  match i with
  | .powerOnReset => Sys2Proof.Machine.execPowerOnReset s
  | .supplyDip => Sys2Proof.Machine.execSupplyDip s
  | .externalReset => Sys2Proof.Machine.execExternalReset s
  | .supervisorRestartReset => Sys2Proof.Machine.execSupervisorRestartReset s
  | .resetEnd => Sys2Proof.Machine.execResetEnd s
  | .sweepStart r turns => Sys2Proof.Machine.execSweepStart r turns s
  | .sweepEnd order => Sys2Proof.Machine.execSweepEnd order s
  | .sensorRead l => Sys2Proof.Machine.execSensorRead l s
  | .sensorConfigure l => Sys2Proof.Machine.execSensorConfigure l s
  | .thresholdSet l => Sys2Proof.Machine.execThresholdSet l s
  | .referenceStatus l => Sys2Proof.Machine.execReferenceStatus l s
  | .tachometerEdge f => Sys2Proof.Machine.execTachometerEdge f s
  | .controlPeriod => Sys2Proof.Machine.execControlPeriod s
  | .trayRemoved t => Sys2Proof.Machine.execTrayRemoved t s
  | .trayInserted t => Sys2Proof.Machine.execTrayInserted t s
  | .trayCountdownExpiry t => Sys2Proof.Machine.execTrayCountdownExpiry t s
  | .groupSet l => Sys2Proof.Machine.execGroupSet l s
  | .curveSet l => Sys2Proof.Machine.execCurveSet l s
  | .fanRatingSet l => Sys2Proof.Machine.execFanRatingSet l s
  | .coolingRead l => Sys2Proof.Machine.execCoolingRead l s
  | .supplyPresenceRise b => Sys2Proof.Machine.execSupplyPresenceRise b s
  | .supplyPresenceFall b => Sys2Proof.Machine.execSupplyPresenceFall b s
  | .supplyPowerGoodRise b => Sys2Proof.Machine.execSupplyPowerGoodRise b s
  | .supplyPowerGoodFall b => Sys2Proof.Machine.execSupplyPowerGoodFall b s
  | .supplyFaultAssert b => Sys2Proof.Machine.execSupplyFaultAssert b s
  | .supplyFaultClear b => Sys2Proof.Machine.execSupplyFaultClear b s
  | .supplyWaitExpiry b => Sys2Proof.Machine.execSupplyWaitExpiry b s
  | .supplySet l => Sys2Proof.Machine.execSupplySet l s
  | .budgetModeSet l => Sys2Proof.Machine.execBudgetModeSet l s
  | .reserveSet l => Sys2Proof.Machine.execReserveSet l s
  | .budgetRead l => Sys2Proof.Machine.execBudgetRead l s
  | .slotPresenceRise n => Sys2Proof.Machine.execSlotPresenceRise n s
  | .slotRemoval n => Sys2Proof.Machine.execSlotRemoval n s
  | .slotPowerGoodRise n => Sys2Proof.Machine.execSlotPowerGoodRise n s
  | .slotPowerGoodFall n => Sys2Proof.Machine.execSlotPowerGoodFall n s
  | .hotSwapFaultAssert n holds => Sys2Proof.Machine.execHotSwapFaultAssert n holds s
  | .rampTimerExpiry n => Sys2Proof.Machine.execRampTimerExpiry n s
  | .retryTimerExpiry n => Sys2Proof.Machine.execRetryTimerExpiry n s
  | .stableTimerExpiry n => Sys2Proof.Machine.execStableTimerExpiry n s
  | .slotPowerOn l => Sys2Proof.Machine.execSlotPowerOn l s
  | .slotPowerOff l => Sys2Proof.Machine.execSlotPowerOff l s
  | .slotUnlock l => Sys2Proof.Machine.execSlotUnlock l s
  | .slotConfigure l => Sys2Proof.Machine.execSlotConfigure l s
  | .slotRead l => Sys2Proof.Machine.execSlotRead l s
  | .slotLinkBadFrame n => Sys2Proof.Machine.execSlotLinkBadFrame n s
  | .slotLinkGapTimeout n => Sys2Proof.Machine.execSlotLinkGapTimeout n s
  | .slotStatus n wire => Sys2Proof.Machine.execSlotStatus n wire s
  | .updateAck n wire => Sys2Proof.Machine.execUpdateAck n wire s
  | .slotLinkOtherFrame n wire => Sys2Proof.Machine.execSlotLinkOtherFrame n wire s
  | .portConfigure l => Sys2Proof.Machine.execPortConfigure l s
  | .portActivate l => Sys2Proof.Machine.execPortActivate l s
  | .portDeactivate l => Sys2Proof.Machine.execPortDeactivate l s
  | .portResume l => Sys2Proof.Machine.execPortResume l s
  | .portRead l => Sys2Proof.Machine.execPortRead l s
  | .graceExpiry t => Sys2Proof.Machine.execGraceExpiry t s
  | .minuteTick => Sys2Proof.Machine.execMinuteTick s
  | .certExpiry place => Sys2Proof.Machine.execCertExpiry place s
  | .counterSaveComplete ok => Sys2Proof.Machine.execCounterSaveComplete ok s
  | .repairWriteComplete ok => Sys2Proof.Machine.execRepairWriteComplete ok s
  | .certInstall l => Sys2Proof.Machine.execCertInstall l s
  | .certInstallComplete ok => Sys2Proof.Machine.execCertInstallComplete ok s
  | .certRemove l => Sys2Proof.Machine.execCertRemove l s
  | .certRemoveComplete ok => Sys2Proof.Machine.execCertRemoveComplete ok s
  | .licenseRead l => Sys2Proof.Machine.execLicenseRead l s
  | .graceSet l => Sys2Proof.Machine.execGraceSet l s
  | .zoneBegin l => Sys2Proof.Machine.execZoneBegin l s
  | .zonePut l => Sys2Proof.Machine.execZonePut l s
  | .zoneDelete l => Sys2Proof.Machine.execZoneDelete l s
  | .zoneDefault l => Sys2Proof.Machine.execZoneDefault l s
  | .zoneAbort l => Sys2Proof.Machine.execZoneAbort l s
  | .zoneCommit l => Sys2Proof.Machine.execZoneCommit l s
  | .zoneRead l => Sys2Proof.Machine.execZoneRead l s
  | .nodeAttach l => Sys2Proof.Machine.execNodeAttach l s
  | .nodeDetach l => Sys2Proof.Machine.execNodeDetach l s
  | .nodeRead l => Sys2Proof.Machine.execNodeRead l s
  | .permissionUpdateSent n => Sys2Proof.Machine.execPermissionUpdateSent n s
  | .responseTimerExpiry n => Sys2Proof.Machine.execResponseTimerExpiry n s
  | .resendTimerExpiry n => Sys2Proof.Machine.execResendTimerExpiry n s
  | .enforcementRead l => Sys2Proof.Machine.execEnforcementRead l s
  | .watchRead l => Sys2Proof.Machine.execWatchRead l s
  | .watchRelease l => Sys2Proof.Machine.execWatchRelease l s
  | .watchList l => Sys2Proof.Machine.execWatchList l s
  | .linkFrameReceived l wire => Sys2Proof.Machine.execLinkFrameReceived l wire s
  | .linkBadFrame l => Sys2Proof.Machine.execLinkBadFrame l s
  | .linkGapTimeout l => Sys2Proof.Machine.execLinkGapTimeout l s
  | .linkBreak l => Sys2Proof.Machine.execLinkBreak l s
  | .breakEnd l => Sys2Proof.Machine.execBreakEnd l s
  | .linkTransmitEnd l => Sys2Proof.Machine.execLinkTransmitEnd l s
  | .unknownRequest l => Sys2Proof.Machine.execUnknownRequest l s
  | .identify l => Sys2Proof.Machine.execIdentify l s
  | .linkStatus l => Sys2Proof.Machine.execLinkStatus l s
  | .resetCauseRead l => Sys2Proof.Machine.execResetCauseRead l s
  | .supervisorRestart l => Sys2Proof.Machine.execSupervisorRestart l s
  | .masterClaim l => Sys2Proof.Machine.execMasterClaim l s
  | .masterRelease l => Sys2Proof.Machine.execMasterRelease l s
  | .standbyRegister l => Sys2Proof.Machine.execStandbyRegister l s
  | .heartbeat l => Sys2Proof.Machine.execHeartbeat l s
  | .heartbeatWindowSet l => Sys2Proof.Machine.execHeartbeatWindowSet l s
  | .masterDeadlineExpiry => Sys2Proof.Machine.execMasterDeadlineExpiry s
  | .standbyLapse l => Sys2Proof.Machine.execStandbyLapse l s
  | .uptimeTick => Sys2Proof.Machine.execUptimeTick s
  | .alertRead l => Sys2Proof.Machine.execAlertRead l s
  | .alertClear l => Sys2Proof.Machine.execAlertClear l s
  | .alertEnable l => Sys2Proof.Machine.execAlertEnable l s
  | .frameStartByte r => Sys2Proof.Machine.execFrameStartByte r s
  | .lineFallsLow l => Sys2Proof.Machine.execLineFallsLow l s
  | .lineRisesBeforeBreak l => Sys2Proof.Machine.execLineRisesBeforeBreak l s
  | .supplyFallInResetHold => Sys2Proof.Machine.execSupplyFallInResetHold s

end Sys2Proof.Machine
end

