-- ==== Sys2Proof/Safety.lean ====
section
/-! DEFINITION. What counts as a safe state of the part: the invariants the chapters' rules state, in the model's terms, and the
conditions under which a command runs. -/

namespace Sys2Proof

/-- The link and the type code of a row that serves a request (section 12.4); none for every other row. -/
def Instr.request : Instr → Option (Link × Byte)
  | .sensorRead l => some (l, 0x10#8)
  | .sensorConfigure l => some (l, 0x11#8)
  | .thresholdSet l => some (l, 0x12#8)
  | .referenceStatus l => some (l, 0x13#8)
  | .groupSet l => some (l, 0x19#8)
  | .curveSet l => some (l, 0x18#8)
  | .fanRatingSet l => some (l, 0x1A#8)
  | .coolingRead l => some (l, 0x1B#8)
  | .supplySet l => some (l, 0x20#8)
  | .budgetModeSet l => some (l, 0x21#8)
  | .reserveSet l => some (l, 0x22#8)
  | .budgetRead l => some (l, 0x23#8)
  | .slotPowerOn l => some (l, 0x29#8)
  | .slotPowerOff l => some (l, 0x2A#8)
  | .slotUnlock l => some (l, 0x2B#8)
  | .slotConfigure l => some (l, 0x28#8)
  | .slotRead l => some (l, 0x2C#8)
  | .portConfigure l => some (l, 0x30#8)
  | .portActivate l => some (l, 0x31#8)
  | .portDeactivate l => some (l, 0x32#8)
  | .portResume l => some (l, 0x33#8)
  | .portRead l => some (l, 0x34#8)
  | .certInstall l => some (l, 0x38#8)
  | .certRemove l => some (l, 0x39#8)
  | .licenseRead l => some (l, 0x3A#8)
  | .graceSet l => some (l, 0x3B#8)
  | .zoneBegin l => some (l, 0x40#8)
  | .zonePut l => some (l, 0x41#8)
  | .zoneDelete l => some (l, 0x42#8)
  | .zoneDefault l => some (l, 0x43#8)
  | .zoneAbort l => some (l, 0x44#8)
  | .zoneCommit l => some (l, 0x45#8)
  | .zoneRead l => some (l, 0x46#8)
  | .nodeAttach l => some (l, 0x47#8)
  | .nodeDetach l => some (l, 0x48#8)
  | .nodeRead l => some (l, 0x49#8)
  | .enforcementRead l => some (l, 0x50#8)
  | .watchRead l => some (l, 0x58#8)
  | .watchRelease l => some (l, 0x59#8)
  | .watchList l => some (l, 0x5A#8)
  | .identify l => some (l, 0x01#8)
  | .linkStatus l => some (l, 0x08#8)
  | .resetCauseRead l => some (l, 0x02#8)
  | .supervisorRestart l => some (l, 0x09#8)
  | .masterClaim l => some (l, 0x03#8)
  | .masterRelease l => some (l, 0x04#8)
  | .standbyRegister l => some (l, 0x05#8)
  | .heartbeat l => some (l, 0x06#8)
  | .heartbeatWindowSet l => some (l, 0x07#8)
  | .alertRead l => some (l, 0x60#8)
  | .alertClear l => some (l, 0x61#8)
  | .alertEnable l => some (l, 0x62#8)
  | .powerOnReset | .supplyDip | .externalReset | .supervisorRestartReset | .resetEnd | .sweepStart _ _ | .sweepEnd _
  | .tachometerEdge _ | .controlPeriod | .trayRemoved _ | .trayInserted _ | .trayCountdownExpiry _
  | .supplyPresenceRise _ | .supplyPresenceFall _ | .supplyPowerGoodRise _ | .supplyPowerGoodFall _
  | .supplyFaultAssert _ | .supplyFaultClear _ | .supplyWaitExpiry _ | .slotPresenceRise _ | .slotRemoval _
  | .slotPowerGoodRise _ | .slotPowerGoodFall _ | .hotSwapFaultAssert _ _ | .rampTimerExpiry _ | .retryTimerExpiry _
  | .stableTimerExpiry _ | .slotLinkBadFrame _ | .slotLinkGapTimeout _ | .slotStatus _ _ | .updateAck _ _
  | .slotLinkOtherFrame _ _ | .graceExpiry _ | .minuteTick | .certExpiry _ | .counterSaveComplete _
  | .repairWriteComplete _ | .certInstallComplete _ | .certRemoveComplete _ | .permissionUpdateSent _
  | .responseTimerExpiry _ | .resendTimerExpiry _ | .linkFrameReceived _ _ | .linkBadFrame _ | .linkGapTimeout _
  | .linkBreak _ | .breakEnd _ | .linkTransmitEnd _ | .unknownRequest _ | .masterDeadlineExpiry
  | .standbyLapse _ | .uptimeTick | .frameStartByte _ | .lineFallsLow _ | .lineRisesBeforeBreak _
  | .supplyFallInResetHold => none

/-- The rows that begin, lengthen or end a reset (R178, R179). -/
def Instr.isReset : Instr → Bool
  | .powerOnReset | .supplyDip | .externalReset | .supervisorRestartReset | .resetEnd | .supplyFallInResetHold => true
  | .sweepStart _ _ | .sweepEnd _ | .sensorRead _ | .sensorConfigure _ | .thresholdSet _ | .referenceStatus _
  | .tachometerEdge _ | .controlPeriod | .trayRemoved _ | .trayInserted _ | .trayCountdownExpiry _ | .groupSet _
  | .curveSet _ | .fanRatingSet _ | .coolingRead _ | .supplyPresenceRise _ | .supplyPresenceFall _
  | .supplyPowerGoodRise _ | .supplyPowerGoodFall _ | .supplyFaultAssert _ | .supplyFaultClear _
  | .supplyWaitExpiry _ | .supplySet _ | .budgetModeSet _ | .reserveSet _ | .budgetRead _ | .slotPresenceRise _
  | .slotRemoval _ | .slotPowerGoodRise _ | .slotPowerGoodFall _ | .hotSwapFaultAssert _ _ | .rampTimerExpiry _
  | .retryTimerExpiry _ | .stableTimerExpiry _ | .slotPowerOn _ | .slotPowerOff _ | .slotUnlock _ | .slotConfigure _
  | .slotRead _ | .slotLinkBadFrame _ | .slotLinkGapTimeout _ | .slotStatus _ _ | .updateAck _ _
  | .slotLinkOtherFrame _ _ | .portConfigure _ | .portActivate _ | .portDeactivate _ | .portResume _ | .portRead _
  | .graceExpiry _ | .minuteTick | .certExpiry _ | .counterSaveComplete _ | .repairWriteComplete _ | .certInstall _
  | .certInstallComplete _ | .certRemove _ | .certRemoveComplete _ | .licenseRead _ | .graceSet _ | .zoneBegin _
  | .zonePut _ | .zoneDelete _ | .zoneDefault _ | .zoneAbort _ | .zoneCommit _ | .zoneRead _ | .nodeAttach _
  | .nodeDetach _ | .nodeRead _ | .permissionUpdateSent _ | .responseTimerExpiry _ | .resendTimerExpiry _
  | .enforcementRead _ | .watchRead _ | .watchRelease _ | .watchList _ | .linkFrameReceived _ _ | .linkBadFrame _
  | .linkGapTimeout _ | .linkBreak _ | .breakEnd _ | .linkTransmitEnd _ | .unknownRequest _ | .identify _
  | .linkStatus _ | .resetCauseRead _ | .supervisorRestart _ | .masterClaim _ | .masterRelease _ | .standbyRegister _
  | .heartbeat _ | .heartbeatWindowSet _ | .masterDeadlineExpiry | .standbyLapse _ | .uptimeTick | .alertRead _
  | .alertClear _ | .alertEnable _ | .frameStartByte _ | .lineFallsLow _ | .lineRisesBeforeBreak _ => false

end Sys2Proof

namespace Sys2Proof.Machine

/-! ## When a command runs -/

/-- The part runs: it is not held in reset, and the last event is over (entry 8). -/
abbrev State.running (s : State) : Prop := s.dev.hold = none ∧ s.dev.work = {}

/-- The condition block of a frame that carries one in a right form (R162). -/
def Frame.cond (f : Frame) : Option Cond := if f.hasCond then f.split.bind fun x => blockOf x.1 else none

/-- `b` is the frame's own fields, and the frame carries no condition block, or one that its type may carry, in KEEP mode, whose
watch check passes (R162 to R164). -/
abbrev Frame.passes (f : Frame) (d : Dev) (l : Link) (b : List Byte) : Prop :=
  f.split.map (·.2) = some b ∧
    (f.hasCond = true →
      condTypes.contains f.ty = true ∧ (f.cond.any fun c => !c.consume && (d.failing l c).isEmpty) = true)

/-- Link `l` has the frame `f` to serve: of type `ty`, its own fields `b` long enough, let through by the master check and by
the watch check of a condition block in KEEP mode (R169, R171, R172). -/
abbrev State.takes (s : State) (l : Link) (ty : Byte) (f : Frame) (b : List Byte) : Prop :=
  s.running ∧ s.dev.toServe l = some f ∧ f.ty = ty ∧ ownNeed ty b ≤ b.length ∧ s.dev.mayServe l ty b = true ∧
    f.passes s.dev l b

/-- The reply of a link that was formed last: in the reply place, or else on the line. -/
def Dev.newest (d : Dev) (l : Link) : Option Reply :=
  match (d.link l).reply, (d.link l).tx with
  | some r, _ => some r
  | none, some (.reply r) => some r
  | none, _ => none

/-- The part after the reply to frame `f` of link `l` is handed to the link (R169, R173, R181). -/
def Dev.replied (d : Dev) (l : Link) (f : Frame) (st : Status) (items : List Item) : Dev := (d.answer l f st items).pump

/-! ## Figures -/

/-- The threshold of a level (section 1.6); NORMAL has none. -/
def LimitRec.threshold (t : LimitRec) : Level → Int
  | .normal => t.warning
  | .warning => t.warning
  | .critical => t.critical
  | .shutdown => t.shutdown

/-- The PBU's figures are those of the supplies and the inlet averages (R38 to R40). -/
abbrev Dev.figured (d : Dev) : Prop :=
  (d.pbu.raw, d.pbu.redLost) = rawAvailable d.pbu ∧ d.pbu.tin = d.tinOf ∧ d.pbu.derate = derateOf d.pbu.tin ∧
    d.pbu.available = d.pbu.raw * (100 - d.pbu.derate) / 100

/-- From `d` to `d1` bay `b` moved to state `st` with wait `w`, taking the next stamp (R37), and a budget evaluation followed;
the other bays, the PBU's settings and the blocks that an evaluation does not reach are as before. -/
abbrev Dev.supplyMoved (d d1 : Dev) (b : BayNo) (st : SupplyState) (w : Option Nat) : Prop :=
  d1.supply b = { d.supply b with state := st, wait := w, stamp := d.wtb.next } ∧
    (∀ x, x ≠ b → d1.supply x = d.supply x) ∧ d1.figured ∧
    (d1.pbu.mode, d1.pbu.reserve, d1.pbu.margin) = (d.pbu.mode, d.pbu.reserve, d.pbu.margin) ∧
    { d1 with
      now := d.now, lines := d.lines, pbu := d.pbu, spc := d.spc, ptc := d.ptc, lcu := d.lcu, zne := d.zne,
      perm := d.perm, edu := d.edu, wtb := d.wtb, atc := d.atc, mli := d.mli } = d

/-- From `d` to `d1` class `c` counted `n` events, up to 255 (R180). -/
abbrev Dev.counted (d d1 : Dev) (c : Fin 11) (n : Nat) : Prop :=
  (d1.cls c).count = if (d.cls c).count < 255 then min 255 ((d.cls c).count + n) else (d.cls c).count

/-- The settings of a slot record (R78). -/
def SlotRec.settings (r : SlotRec) : Nat × Nat × Nat × Bool × Nat × Nat × Bool :=
  (r.base, r.limit, r.ocDelay, r.retryEnable, r.maxAttempts, r.retryDelay, r.prot)

/-- From `d` to `d1` slot `n` faulted (R65): RETRY_WAIT with an attempt used, its held base kept and its ACTIVE and SHED ports
SUSPENDED, or LOCKED_OUT with its base released and its ports OFFLINE. -/
abbrev Dev.faulted (d d1 : Dev) (n : SlotNo) : Prop :=
  (if (d.slot n).retryEnable = true ∧ (d.slot n).attempts < (d.slot n).maxAttempts then
    (d1.slot n).state = .retryWait ∧ (d1.slot n).cause = some .fault ∧ (d1.slot n).attempts = (d.slot n).attempts + 1 ∧
      (d1.slot n).retry = some (d1.now + 1000 * (d.slot n).retryDelay) ∧ d1.heldBase n = d.heldBase n ∧
      ∀ p, slotOf p = n → (d1.port p).state =
        if (d.port p).state = .active ∨ (d.port p).state = .shed then .suspended else (d.port p).state
  else
    (d1.slot n).state = .lockedOut ∧ (d1.slot n).cause = some .lockout ∧ (d1.slot n).attempts = (d.slot n).attempts ∧
      (d1.slot n).retry = none ∧ d1.heldBase n = none ∧ ∀ p, slotOf p = n → (d1.port p).state = .offline) ∧
    (d1.slot n).enable = false ∧ (d1.slot n).ramp = none ∧ (d1.slot n).stable = none ∧ (d1.slot n).ocCount = 0 ∧
    (d1.slot n).health = 0 ∧ (d1.slot n).passive = false ∧ (d1.slot n).present = (d.slot n).present ∧
    (∀ m, (d1.slot m).settings = (d.slot m).settings) ∧ (d1.step n).state = .unpowered ∧
    ((d.slot n).state = .powered → ∀ p, slotOf p = n → (d1.port p).optic = none) ∧
    min 255 ((d.cls clsSlot).count + 1) ≤ (d1.cls clsSlot).count

/-- From `d` to `d1` slot `n` lost its power, or its place in the queue, for good (R71, R72): its base is released, its timers are
idle, its ports are OFFLINE, and without an optic where it was POWERED. -/
abbrev Dev.wentDown (d d1 : Dev) (n : SlotNo) : Prop :=
  (d1.slot n).attempts = 0 ∧ (d1.slot n).enable = false ∧ (d1.slot n).ramp = none ∧ (d1.slot n).retry = none ∧
    (d1.slot n).stable = none ∧ n ∉ d1.spc.queue ∧ d1.heldBase n = none ∧ (d1.step n).state = .unpowered ∧
    (∀ m, (d1.slot m).settings = (d.slot m).settings) ∧
    (∀ p, slotOf p = n → (d1.port p).state = .offline) ∧
    ((d.slot n).state = .powered →
      (d1.slot n).health = 0 ∧ (d1.slot n).passive = false ∧ ∀ p, slotOf p = n → (d1.port p).optic = none)

/-- From `d` to `d1` a restore pass ran (R50): the ports at the head of the restore queue left it, HELD on a hot slot and else ACTIVE
with the margin to spare, and the head of what is left is on no hot slot and does not fit. -/
abbrev Dev.restored (d d1 : Dev) : Prop :=
  let q := d.pbu.restoreQ
  ∃ k ∈ List.range 65, d1.pbu.restoreQ = q.drop k ∧
    (∀ p ∈ q.take k,
      if d.slotHot (slotOf p) = true then (d1.port p).state = .held
      else (d1.port p).state = .active ∧ (d1.pbu.margin : Int) ≤ d1.headroom) ∧
    ∀ p ∈ (q.drop k).head?, d.slotHot (slotOf p) = false ∧ d1.headroom < ((d1.port p).power + d1.pbu.margin : Nat)

/-- From `d` to `d1` slot `n`, holding a base, came to the power-on queue with nothing else to ramp before it or behind one that
ramps (R58, R60, R61, R63): QUEUED at the tail, or POWERING, or, with a line already asserted, POWERED or faulted. -/
abbrev Dev.queued (d d1 : Dev) (n : SlotNo) : Prop :=
  if d.noneRamping = false then (d1.slot n).state = .queued ∧ d1.spc.queue = d.spc.queue ++ [n]
  else
    d1.spc.queue = [] ∧
      if d.lines.hotSwap[n.val] then (d1.slot n).state = .retryWait ∨ (d1.slot n).state = .lockedOut
      else if d.lines.slotPowerGood[n.val] then
        (d1.slot n).state = .powered ∧ (d1.slot n).enable = true ∧ (d1.step n).state = .sending
      else (d1.slot n).state = .powering ∧ (d1.slot n).enable = true ∧ (d1.slot n).ramp = some (d1.now + 500)

/-! ## Ports (R49, R80, R115) -/

/-- R80: a port holds a seat unless it is OFFLINE, and admitted power, of its seated class, while it is ACTIVE. -/
abbrev PortRec.wf (r : PortRec) : Prop :=
  (r.seat = .none ↔ r.state = .offline) ∧ (r.seated = none ↔ r.state = .offline) ∧
    r.admitted = if r.state = .active then some r.power else none

/-- R80, R49, R115: the ports, the restore queue and the borrower list agree. -/
abbrev Dev.portsWf (d : Dev) : Prop :=
  (∀ p, (d.port p).wf) ∧
    (d.pbu.restoreQ.Nodup ∧ ∀ p, p ∈ d.pbu.restoreQ ↔ (d.port p).state = .shed) ∧
    (d.lcu.borrowers.Nodup ∧ ∀ p, p ∈ d.lcu.borrowers ↔ (d.port p).seat = .borrowed)

/-! ## Slots (R41, R58, R60) -/

/-- R58, R60, R41: the power-on queue holds the QUEUED slots, at most one slot ramps, a queue waits only for a ramp, and enable
lines and held bases follow the states. -/
abbrev Dev.slotsWf (d : Dev) : Prop :=
  (d.spc.queue.Nodup ∧ ∀ s, s ∈ d.spc.queue ↔ (d.slot s).state = .queued) ∧
    (∀ s t, (d.slot s).state = .powering → (d.slot t).state = .powering → s = t) ∧
    (d.noneRamping = true → d.spc.queue = []) ∧
    (∀ s, (d.slot s).enable = true ↔ (d.slot s).state = .powering ∨ (d.slot s).state = .powered) ∧
    ∀ s, (d.heldBase s).isSome = (d.slot s).state.holdsBase

/-- R80: every ACTIVE or SHED port lies on a POWERED slot. -/
abbrev Dev.carriedWf (d : Dev) : Prop :=
  ∀ p, (d.port p).state = .active ∨ (d.port p).state = .shed → (d.slot (slotOf p)).state = .powered

/-! ## The power account (R41, R48) -/

/-- R41, R48: allocated is the sum of its parts, overcommit says that it exceeds available, and it exceeds available only while
no port is ACTIVE and every slot that holds a base is protected. -/
abbrev Dev.budgetWf (d : Dev) : Prop :=
  d.pbu.allocated = d.allocatedSum ∧ (d.pbu.overcommit = true ↔ d.pbu.available < d.pbu.allocated) ∧
    (d.pbu.available < d.pbu.allocated →
      (∀ p, (d.port p).state ≠ .active) ∧ ∀ s, (d.heldBase s).isSome = true → (d.slot s).prot = true)

/-! ## Permissions (R138, R144) -/

/-- A table of rows is symmetric and no row holds its own port. -/
abbrev rowsWf (rows : Vector PortSet 64) : Prop :=
  (∀ p q : PortNo, inMask rows[p.val] q = inMask rows[q.val] p) ∧ ∀ p : PortNo, inMask rows[p.val] p = false

/-- R138, R144: the reach matrix is symmetric and irreflexive, and the rows in force are formed from it and the eligible set. -/
abbrev Perm.wf (p : Perm) : Prop := rowsWf p.reach ∧ p.rows = formRows p.reach p.eligible

/-- R143: the eligible set is that of the ports that are ACTIVE on a slot whose step is SENDING or IN_STEP and that is not
passive. -/
abbrev Dev.eligibleWf (d : Dev) : Prop :=
  ∀ p : PortNo, inMask d.perm.eligible p = true ↔
    (d.port p).state = .active ∧
      ((d.step (slotOf p)).state = .sending ∨ (d.step (slotOf p)).state = .inStep) ∧ (d.slot (slotOf p)).passive = false

/-! ## Seats (R113, R116, R118) -/

/-- R113: how many ports hold a seat that counts under the tier. -/
def Dev.seatsHeld (d : Dev) (t : Tier) : Nat := (List.finRange 64).countP fun p => decide (seatTier (d.port p).seat = some t)

/-- R113, R118: a tier's total and held figures are those of the certificates and the ports, and the tier is short exactly
while its grace runs. -/
abbrev Dev.tierWf (d : Dev) (t : Tier) : Prop :=
  (d.tierRec t).total = totalOf d.lcu.table t ∧ (d.tierRec t).held = d.seatsHeld t ∧
    ((d.tierRec t).grace.isRunning = true ↔ 0 < (d.tierRec t).shortfall)

/-- R113, R116, R118: both tiers agree with the ports, and a port borrows only while BASE has no free seat. -/
abbrev Dev.seatsWf (d : Dev) : Prop :=
  d.tierWf .base ∧ d.tierWf .high ∧ (d.lcu.borrowers ≠ [] → d.lcu.base.free = 0)

/-! ## The seat review (R116 to R119) -/

/-- R116: the borrowers that move to BASE seats when the tiers' totals become `total`: the oldest, while BASE seats are free. -/
def Dev.movers (d : Dev) (total : Tier → Nat) : List PortNo := d.lcu.borrowers.take (total .base - d.lcu.base.held)

/-- R116: the seats a tier holds once the borrowers have moved. -/
def Dev.heldMoved (d : Dev) (total : Tier → Nat) : Tier → Nat
  | .base => d.lcu.base.held + (d.movers total).length
  | .high => d.lcu.high.held - (d.movers total).length

/-- R118's table, and R119 where it reclaims: the seats a tier holds and its grace after a review that finds these totals, at this
value of the counter, and its LICENSE event, by its code and details. A grace that has met its deadline ends only at a minute
tick. A deadline past the counter's end is held as the sum stands (entry 33). -/
def Dev.reviewOf (d : Dev) (total : Tier → Nat) (now : Nat) (tick : Bool) (y : Tier) : Nat × Grace × Option (Nat × List Int) :=
  let held := d.heldMoved total y
  let short := held - total y
  match (d.tierRec y).grace with
  | .idle =>
    if short = 0 then (held, .idle, none)
    else if d.lcu.graceLen = 0 then (total y, .idle, some (0x59, [(short : Int)]))
    else (held, .running (now + d.lcu.graceLen), some (0x57, [(short : Int), ((now + d.lcu.graceLen : Nat) : Int)]))
  | .running w =>
    if short = 0 then (held, .idle, some (0x58, []))
    else if tick = true ∧ w ≤ now then (total y, .idle, some (0x59, [(short : Int)]))
    else (held, .running w, none)

/-- R119: a port's place in the order of a reclaim: first those without traffic, then borrowers, then the others, in each the
lower priority and then the higher number first. -/
def Dev.reclaimRank (d : Dev) (p : PortNo) : Nat :=
  (if (d.port p).state ≠ .active then 0 else if (d.port p).seat = .borrowed then 1 else 2) * 256 +
    (d.port p).priority.val * 64 + (63 - p.val)

/-- From `d` to `d1` the seats were reviewed (R116 to R119): the borrowers that move hold BASE seats, each tier's row is R118's, each
tier's LICENSE event is counted with `others` more, and what a reclaim takes goes OFFLINE with cause LICENSE in R119's order. -/
abbrev Dev.reviewed (d d1 : Dev) (total : Tier → Nat) (now : Nat) (tick : Bool) (others : Nat) : Prop :=
  let r := d.reviewOf total now tick
  let seat (p : PortNo) : Seat := if p ∈ d.movers total then .base else (d.port p).seat
  let taken (p : PortNo) : Bool := decide ((d.port p).state ≠ .offline) && decide ((d1.port p).state = .offline)
  (∀ y, d1.tierRec y = ⟨total y, (r y).1, (r y).2.1⟩) ∧
    d1.lcu.borrowers = (d.lcu.borrowers.drop (d.movers total).length).filter (fun p => !taken p) ∧
    d.counted d1 clsLicense (others + (if (r .base).2.2.isSome then 1 else 0) + if (r .high).2.2.isSome then 1 else 0) ∧
    (∀ y, match (r y).2.2, (r (match y with | .base => .high | .high => .base)).2.2 with
      | some e, none => (d1.cls clsLicense).last = some ⟨.tier, tierCode y, e.1, e.2, d.atc.uptime⟩
      | _, _ => True) ∧
    ∀ p, if taken p = true then
      (d1.port p).cause = some .license ∧
        ∃ y ∈ seatTier (seat p), (r y).2.2.map (·.1) = some 0x59 ∧
          ∀ q, seatTier (seat q) = some y → taken q = false → d.reclaimRank p < d.reclaimRank q
    else (d1.port p).seat = seat p

/-! ## Zones and attachments (R124, R134) -/

/-- R124: the limits of a zone set. -/
abbrev zoneSetWf (zs : List Zone) : Prop :=
  (zs.map (·.id)).Pairwise (· < ·) ∧ zs.length ≤ 128 ∧ entriesOf zs ≤ 2048 ∧
    ∀ z ∈ zs, 1 ≤ z.members.length ∧ z.members.length ≤ 64 ∧ z.members.Nodup

/-- R124, R134: the active and the staged set keep their limits; attachments stand in ascending node identifier, at most 256,
each at an ACTIVE port. -/
abbrev Dev.zonesWf (d : Dev) : Prop :=
  zoneSetWf d.zne.activeZones ∧ (∀ s ∈ d.zne.staged, zoneSetWf s.zones) ∧ (d.zne.assembly ≠ none → d.zne.staged ≠ none) ∧
    (d.zne.nodes.map (·.node)).Pairwise (· < ·) ∧ d.zne.nodes.length ≤ 256 ∧
    ∀ e ∈ d.zne.nodes, (d.port e.port).state = .active

/-! ## The permission exchange (R145, R153) -/

/-- R153, section 8.2: a step record is UNPOWERED exactly while its slot is not POWERED, and an IN_STEP slot has acknowledged the
current generation. -/
abbrev Dev.stepsWf (d : Dev) : Prop :=
  ∀ s, ((d.step s).state = .unpowered ↔ (d.slot s).state ≠ .powered) ∧
    ((d.step s).state = .inStep → (d.step s).acked = some d.perm.gen ∧ (d.step s).dirty = false)

/-- R145, R147: what a new generation does to a step record: a SENDING slot is dirty, an IN_STEP one is sent it, the others keep
theirs. -/
def StepRec.renewed (r : StepRec) (gen : Nat) : StepRec :=
  match r.state with
  | .sending => { r with dirty := true }
  | .inStep => { r with state := .sending, sent := some gen, dirty := false, response := none, resend := none }
  | .unpowered => r
  | .outOfStep => r

/-! ## Mastership and watches (R158, R174) -/

/-- R174: the master link is not DOWN, and no link is both master and registered standby. -/
abbrev Dev.mastershipWf (d : Dev) : Prop :=
  (d.msa.master = some .a → d.down .a = false ∧ (d.link .a).standby = false) ∧
    (d.msa.master = some .b → d.down .b = false ∧ (d.link .b).standby = false)

/-- R158: a link owns at most 8 entries and a DOWN link none; ids are 1 to 255 and unique. -/
abbrev Dev.watchesWf (d : Dev) : Prop :=
  ((d.watchesOf .a).length ≤ 8 ∧ (d.watchesOf .b).length ≤ 8) ∧
    (d.down .a = true → d.watchesOf .a = []) ∧ (d.down .b = true → d.watchesOf .b = []) ∧
    (1 ≤ d.wtb.idCounter ∧ d.wtb.idCounter ≤ 255) ∧ (d.wtb.entries.map (·.id)).Nodup ∧
    ∀ w ∈ d.wtb.entries, 1 ≤ w.id ∧ w.id ≤ 255

/-! ## Notices (R181) -/

/-- R181: the links a notice goes to: the master link, or while there is none every link that is not DOWN. -/
abbrev Dev.noticeTarget (d : Dev) (l : Link) : Prop := d.msa.master = some l ∨ d.msa.master = none ∧ d.down l = false

/-- R181: a class that may be chosen for a notice: unnoticed, with notify enable on. -/
abbrev Dev.noticeCandidate (d : Dev) (c : Fin 11) : Prop := (d.cls c).unnoticed = true ∧ (d.cls c).notify = true

/-- R181: no notice is owed: a target link's notice place is full, or there is no target link, or no class may be chosen. -/
abbrev Dev.noticesWf (d : Dev) : Prop :=
  ((d.noticeTarget .a ∧ (d.link .a).notice ≠ none) ∨ (d.noticeTarget .b ∧ (d.link .b).notice ≠ none)) ∨
    (¬ d.noticeTarget .a ∧ ¬ d.noticeTarget .b) ∨ ∀ c, ¬ d.noticeCandidate c

/-- R182: link `l` is to be told of class `c`: the class is unnoticed, or its notice, as it stands, is in the link's place or on its
line. -/
abbrev Dev.toBeTold (d : Dev) (l : Link) (c : Fin 11) : Prop :=
  (d.cls c).unnoticed = true ∨ (d.link l).notice = some ⟨c, (d.cls c).count, (d.cls c).last⟩ ∨
    (d.link l).tx = some (.notice ⟨c, (d.cls c).count, (d.cls c).last⟩)

/-- R181: notice `n` is one that may be formed into the place of link `l`: of a class that may be chosen, as the class stands. -/
abbrev Dev.mayForm (d : Dev) (l : Link) (n : Notice) : Prop :=
  d.noticeTarget l ∧ d.noticeCandidate n.cls ∧ n.count = (d.cls n.cls).count ∧ n.event = (d.cls n.cls).last

/-- R173: from `r` to `r1` a link's transmitter went on: a busy line and one of a DOWN link stay, with the reply place and a full
notice place; an idle line takes the reply that waits, else the notice; nothing else of the link changes. -/
abbrev LinkRec.wentOn (r r1 : LinkRec) : Prop :=
  { r1 with reply := r.reply, tx := r.tx, notice := r.notice } = r ∧
    if 255 ≤ r.errs ∨ r.tx ≠ none then r1.tx = r.tx ∧ r1.reply = r.reply ∧ (r.notice ≠ none → r1.notice = r.notice)
    else
      r1.reply = none ∧
        match r.reply, r.notice with
        | some x, n => r1.tx = some (.reply x) ∧ (n ≠ none → r1.notice = n)
        | none, some n => r1.tx = some (.notice n)
        | none, none => match r1.tx with | some (.reply _) => False | _ => True

/-- From `d` to `d1` the transmitters of both links went on, and each notice in a place or on a line was there before or was formed
in between, as R181 chooses it; a class that is no longer unnoticed is told at a link; no notice is owed any more. -/
abbrev Dev.noticesSent (d d1 : Dev) : Prop :=
  (∀ x, (d.link x).wentOn (d1.link x) ∧ (∀ n ∈ (d1.link x).notice, (d.link x).notice = some n ∨ d.mayForm x n) ∧
    match (d1.link x).tx with
    | some (.notice n) => (d.link x).tx = some (.notice n) ∨ (d.link x).notice = some n ∨ d.mayForm x n
    | _ => True) ∧
    (∀ c, (d.cls c).unnoticed = true → d1.toBeTold .a c ∨ d1.toBeTold .b c) ∧ d1.noticesWf

/-! ## Cooling (R27) -/

/-- R30: the settings of a group are in range. -/
abbrev GroupRec.inRange (g : GroupRec) : Prop :=
  g.manual ≤ 100 ∧ 20 ≤ g.dmin ∧ g.dmin ≤ 100 ∧ g.boost ≤ 50 ∧ 1 ≤ g.downSlew ∧ g.downSlew ≤ 10

/-- R27: each group's commanded duty is at least its latest demand, at least 20 and at most 100. -/
abbrev Dev.coolingWf (d : Dev) : Prop :=
  (∀ i : Fin 16, (d.clc.curves[i.val]).low < (d.clc.curves[i.val]).high) ∧
    ∀ i : Fin 3, (d.clc.groups[i.val]).inRange ∧ (d.clc.groups[i.val]).duty ≤ 100 ∧ 20 ≤ (d.clc.groups[i.val]).duty ∧
      ∀ x, (d.clc.groups[i.val]).lastDemand = some x → x ≤ (d.clc.groups[i.val]).duty

/-! ## The part as a whole -/

/-- Every invariant of the chapters holds. -/
abbrev Dev.sound (d : Dev) : Prop :=
  d.portsWf ∧ d.slotsWf ∧ d.carriedWf ∧ d.budgetWf ∧ d.perm.wf ∧ d.seatsWf ∧ d.zonesWf ∧ d.stepsWf ∧ d.mastershipWf ∧
    d.watchesWf ∧ d.coolingWf

end Sys2Proof.Machine
end

