-- ==== Sys2Proof/WellFormed.lean ====
section
/-! DEFINITION. Which commands are well formed: a sweep has 24 measurement channels' turns (R1), each consumer reacts once to a
publication (R42), and the bytes of a row that names a good frame, a SLOT STATUS, an UPDATE ACK or another frame make one
(R166, R74, R187). -/

namespace Sys2Proof

open Machine

/-- The bytes make a good frame (R166). -/
def isGood (wire : List Byte) : Bool :=
  match arrival wire with
  | .good _ => true
  | _ => false

/-- The bytes make a SLOT STATUS frame that is not void (R187). -/
def isStatus (wire : List Byte) : Bool :=
  match arrival wire with
  | .good f =>
    match slotFrameOf f with
    | .status _ => true
    | _ => false
  | _ => false

/-- The bytes make an UPDATE ACK frame that is not void (R187). -/
def isAck (wire : List Byte) : Bool :=
  match arrival wire with
  | .good f =>
    match slotFrameOf f with
    | .ack _ => true
    | _ => false
  | _ => false

/-- The bytes make a good frame of a type the slot link does not use, or a void frame (R74, R187). -/
def isOther (wire : List Byte) : Bool :=
  match arrival wire with
  | .good f => decide (slotFrameOf f = .other)
  | _ => false

/-- The command's operands are as its row has them. -/
def Instr.wellFormed : Instr → Bool
  | .powerOnReset | .supplyDip | .externalReset | .supervisorRestartReset | .resetEnd => true
  | .sweepStart _ turns => decide (turns.sum ≤ 24)
  | .sweepEnd order => decide order.Nodup
  | .sensorRead _ | .sensorConfigure _ | .thresholdSet _ | .referenceStatus _ | .tachometerEdge _ | .controlPeriod
  | .trayRemoved _ | .trayInserted _ | .trayCountdownExpiry _ | .groupSet _ | .curveSet _ | .fanRatingSet _
  | .coolingRead _ | .supplyPresenceRise _ | .supplyPresenceFall _ | .supplyPowerGoodRise _ | .supplyPowerGoodFall _
  | .supplyFaultAssert _ | .supplyFaultClear _ | .supplyWaitExpiry _ | .supplySet _ | .budgetModeSet _ | .reserveSet _
  | .budgetRead _ | .slotPresenceRise _ | .slotRemoval _ | .slotPowerGoodRise _ | .slotPowerGoodFall _
  | .hotSwapFaultAssert _ _ | .rampTimerExpiry _ | .retryTimerExpiry _ | .stableTimerExpiry _ | .slotPowerOn _
  | .slotPowerOff _ | .slotUnlock _ | .slotConfigure _ | .slotRead _ | .slotLinkBadFrame _ | .slotLinkGapTimeout _ => true
  | .slotStatus _ wire => isStatus wire
  | .updateAck _ wire => isAck wire
  | .slotLinkOtherFrame _ wire => isOther wire
  | .portConfigure _ | .portActivate _ | .portDeactivate _ | .portResume _ | .portRead _ | .graceExpiry _ | .minuteTick
  | .certExpiry _ | .counterSaveComplete _ | .repairWriteComplete _ | .certInstall _ | .certInstallComplete _
  | .certRemove _ | .certRemoveComplete _ | .licenseRead _ | .graceSet _ | .zoneBegin _ | .zonePut _ | .zoneDelete _
  | .zoneDefault _ | .zoneAbort _ | .zoneCommit _ | .zoneRead _ | .nodeAttach _ | .nodeDetach _ | .nodeRead _
  | .permissionUpdateSent _ | .responseTimerExpiry _ | .resendTimerExpiry _ | .enforcementRead _ | .watchRead _
  | .watchRelease _ | .watchList _ => true
  | .linkFrameReceived _ wire => isGood wire
  | .linkBadFrame _ | .linkGapTimeout _ | .linkBreak _ | .breakEnd _ | .linkTransmitEnd _ | .unknownRequest _
  | .identify _ | .linkStatus _ | .resetCauseRead _ | .supervisorRestart _ | .masterClaim _ | .masterRelease _
  | .standbyRegister _ | .heartbeat _ | .heartbeatWindowSet _ | .masterDeadlineExpiry | .standbyLapse _ | .uptimeTick
  | .alertRead _ | .alertClear _ | .alertEnable _ | .frameStartByte _ | .lineFallsLow _ | .lineRisesBeforeBreak _
  | .supplyFallInResetHold => true

end Sys2Proof
end

