-- ==== Sys2Proof/Certificates/Slice0/Obligations.lean ====
section
/-! DEFINITION. The statements for the provers, in the order of OBLIGATIONS.json: the machine, the resets, each chapter's
commands, and the invariants that every step keeps. A request's statement says what the part is after it, with the reply it
hands to the link (`Dev.replied`, of which ReplyHandedOver says what it does). -/

open Sys2Proof Sys2Proof.Machine

/-! ## The machine -/

/-- Step runs the command at the front of the queue on the state with the queue's rest; with no command waiting one millisecond
passes (entry 1, the model's choice). -/
def Obligations.StepRunsFront : Prop :=
  ∀ s : State,
    (∀ c rest, s.pending = c :: rest → step s = exec c { s with pending := rest }) ∧
      (s.pending = [] → step s = .next { s with dev := { s.dev with now := s.dev.now + 1 } })

/-- Every command answers a next state and leaves the queue of waiting commands alone; a part held in reset acts on no command
but the resets', and only the levels of its input lines move (R179). -/
def Obligations.EveryCommandAnswers : Prop :=
  ∀ (c : Instr) (s : State),
    ∃ t, exec c s = .next t ∧ t.pending = s.pending ∧
      (s.dev.hold ≠ none → c.isReset = false → { t.dev with lines := s.dev.lines } = s.dev)

/-- R171's checks, for each of the 52 rows that serve a request: too short, a condition block where none may stand or of a wrong
form, not from the master, a failing watch; each refusal replies and changes nothing, but that STALE removes the failing entries
(R163). With another frame at the head or none the row does nothing (entry 2, the model's choice); a type that names no request
is answered UNKNOWN_TYPE. That WATCH RELEASE with an undefined selection needs two bytes only is the model's choice (entry
30). -/
def Obligations.RequestRefusals : Prop :=
  ∀ (c : Instr) (l : Link) (ty : Byte) (s : State),
    c.request = some (l, ty) →
    s.running →
    (∀ f ∈ s.dev.toServe l,
      (f.ty = ty →
        match f.split with
        | none => exec c s = .next { s with dev := s.dev.replied l f .short [] }
        | some (blk, b) =>
          if b.length < ownNeed ty b then exec c s = .next { s with dev := s.dev.replied l f .short [] }
          else if f.hasCond = true ∧ (condTypes.contains ty = false ∨ blockOf blk = none) then
            exec c s = .next { s with dev := s.dev.replied l f .badValue [] }
          else if s.dev.mayServe l ty b = false then
            exec c s = .next { s with dev := s.dev.replied l f .notMaster [] }
          else
            ∀ k ∈ f.cond, s.dev.failing l k ≠ [] →
              exec c s = .next { s with
                dev := (s.dev.dropIds l ((s.dev.failing l k).map (·.1))).replied l f .stale
                  (u16 (s.dev.failing l k).length :: (s.dev.failing l k).flatMap fun x => [u8 x.1, u8 x.2]) }) ∧
      (f.ty ≠ ty → exec c s = .next s) ∧
      (f.ty ∉ requestTypes →
        exec (.unknownRequest l) s = .next { s with dev := s.dev.replied l f .unknownType [] })) ∧
      (s.dev.toServe l = none → exec c s = .next s)

/-- A request with a condition block in CONSUME mode whose watches are all current has the effect and the reply of the same
request in KEEP mode, but that the block's entries of the link are removed exactly when the reply is OK (R164). A CERT REMOVE
that starts its erase waits with its block, and its entries go when the erase completes (R107, StoreCompletions). -/
def Obligations.ConsumeDropsEntries : Prop :=
  ∀ (c : Instr) (l : Link) (ty : Byte) (f g : Frame) (b : List Byte) (k : Cond) (s : State),
    c.request = some (l, ty) →
    s.running →
    s.dev.toServe l = some f →
    f.ty = ty →
    condTypes.contains ty = true →
    f.cond = some k →
    k.consume = true →
    s.dev.failing l k = [] →
    f.split.map (·.2) = some b →
    ownNeed ty b ≤ b.length →
    s.dev.mayServe l ty b = true →
    (g.ty, g.tag) = (f.ty, f.tag) →
    g.cond = some { k with consume := false } →
    g.split.map (·.2) = some b →
    let keeping : State := { s with dev := s.dev.modLink l fun r => { r with queue := g :: r.queue.tail } }
    let used := s.dev.wtb.entries.filter fun w => !(decide (w.owner = l) && k.ids.contains w.id)
    ∃ t, exec c s = .next t ∧
      ∃ u, exec c keeping = .next u ∧
        if (u.dev.link l).inService = true then
          ty = 0x39#8 ∧ ∃ i ∈ List.finRange 16, u.dev.lcu.op = some (.erase i l (some { k with consume := false })) ∧
            t = { u with dev := { u.dev with lcu := { u.dev.lcu with op := some (.erase i l (some k)) } }.modLink l fun r =>
              { r with queue := (s.dev.link l).queue } }
        else
          t.dev.newest l = u.dev.newest l ∧
            ∃ r, t.dev.newest l = some r ∧ r.ty = f.ty ∧ r.tag = f.tag ∧
              t = { u with dev := { u.dev with wtb := { u.dev.wtb with
                entries := if r.status = .ok then used else s.dev.wtb.entries } } }

/-- What handing a reply to a link that is not DOWN does (R169, R173, R181): the frame leaves the queue, the reply goes on an
idle line or into the reply place, the other link's transmitter goes on, and besides only notices may be formed and sent: a busy
line, a reply that waits behind one and a full notice place are kept. That notices are formed as the event ends is the model's
choice (entry 10). -/
def Obligations.ReplyHandedOver : Prop :=
  ∀ (d : Dev) (l : Link) (f : Frame) (st : Status) (items : List Item),
    d.down l = false →
    let d1 := d.replied l f st items
    { d1 with mli := d.mli, atc := d.atc } = d ∧
      (d1.link l).queue = (d.link l).queue.tail ∧ (d1.link l).inService = false ∧
      (if (d.link l).tx = none then
        (d1.link l).tx = some (.reply ⟨f.ty, f.tag, st, items⟩) ∧ (d1.link l).reply = none
      else (d1.link l).tx = (d.link l).tx ∧ (d1.link l).reply = some ⟨f.ty, f.tag, st, items⟩) ∧
      d1.newest l = some ⟨f.ty, f.tag, st, items⟩ ∧
      Dev.noticesSent (d.modLink l fun r =>
        { r with queue := r.queue.tail, inService := false, reply := some ⟨f.ty, f.tag, st, items⟩ }) d1 ∧
      { d1.link l with
        queue := (d.link l).queue, inService := (d.link l).inService, reply := (d.link l).reply,
        tx := (d.link l).tx, notice := (d.link l).notice } = d.link l ∧
      { d1.link (other l) with
        reply := (d.link (other l)).reply, tx := (d.link (other l)).tx, notice := (d.link (other l)).notice } =
          d.link (other l) ∧
      d1.atc.uptime = d.atc.uptime ∧ d1.atc.uptimeDue = d.atc.uptimeDue ∧
      ∀ c : Fin 11, { d1.cls c with unnoticed := (d.cls c).unnoticed } = d.cls c ∧
        ((d1.cls c).unnoticed = true → (d.cls c).unnoticed = true)

/-! ## Resets -/

/-- What each reset leaves as it begins (R178): its cause added to the set, its condition added to those in progress, the record
of a store write in flight torn (R103), the lines, and nothing else of what the part held; every enable line is low (R77), every
fan driven at 100 percent (R28), and both transmitters idle (R179). A fall of the supply in the supply monitor's own hold starts
the 4 ms again. What is held of the hold itself is the model's choice (entry 15), and so is that SUPERVISOR_RESTART_RESET begins
the reset while the reply still stands (entry 14). -/
def Obligations.ResetBegins : Prop :=
  ∀ s : State,
    let d := s.dev
    let h : Hold := d.hold.getD {}
    let held (lines : Lines) (c : Causes) (h : Hold) : Dev :=
      { now := d.now, lines := lines, store := tearWrite d.lcu.op d.store, causes := c, hold := some h }
    (exec .powerOnReset s = .next { s with
      dev := held d.lines { d.causes with power := true } { h with supply := some (d.now + 4) } }) ∧
    (h.supply = none →
      exec .supplyDip s = .next { s with
        dev := held d.lines { d.causes with dip := true } { h with supply := some (d.now + 4) } }) ∧
    (d.lines.externalReset = false →
      exec .externalReset s = .next { s with
        dev := held { d.lines with externalReset := true } { d.causes with ext := true } { h with ext := true } }) ∧
    (d.mli.a.restartDue = true ∨ d.mli.b.restartDue = true →
      exec .supervisorRestartReset s = .next { s with
        dev := held d.lines { d.causes with command := true } { h with restart := some (d.now + 1) } }) ∧
    (d.hold = some h → h.supply ≠ none →
      exec .supplyDip s = .next { s with dev := { d with hold := some { h with supply := some (d.now + 4) } } } ∧
        exec .supplyFallInResetHold s =
          .next { s with dev := { d with hold := some { h with supply := some (d.now + 4) } } }) ∧
    ∀ (lines : Lines) (c : Causes) (h : Hold),
      (∀ n, ((held lines c h).slot n).enable = false ∧ ((held lines c h).slot n).tx = []) ∧
        (∀ f : Fin 6, ((held lines c h).clc.fans[f.val]).highTicks = 400) ∧
        ∀ l, ((held lines c h).link l).tx = none ∧ ((held lines c h).link l).queue = []

/-- The state in which a reset ends: each chapter's reset values, the supplies', slots' and trays' states from the lines, the
reset causes and the License Store kept, the certificates loaded and the repair started after a torn counter (R111, R112),
overcommit found by the first budget evaluation, and the class records with the events these raise (R13, R29, R52, R77, R101,
R123, R142, R156, R157, R179, R185). That RESET_END ends every reset condition and releases the external line (entry 15), a
CHASSIS subject's index (entry 11), the validation code, of which nothing is known (entry 12), SERIAL for a record that fails
both checks and a torn slot staying torn (entry 29), and the notices formed as the event ends (entry 10) are the model's
choices. -/
def Obligations.ResetEndDefaults : Prop :=
  ∀ s : State,
    s.dev.hold ≠ none →
    let minute : Option Nat := match s.dev.store.counter with | .whole n => some n | _ => none
    let loads (c : CertData) : Bool := decide (c.serial = Config.chassisSerial) &&
      decide (c.code = Config.validationCode c.id (tierCode c.tier) c.seats c.expiry c.serial)
    let bad : Nat := (List.finRange 16).countP fun i => match s.dev.store.certs[i.val] with
      | .nothing => false
      | .torn => true
      | .whole c _ => !loads c
    let marks (i : Fin 16) : Bool := match s.dev.store.certs[i.val] with
      | .whole c false => loads c && decide (c.expiry ≠ 0)
      | _ => false
    let out : Nat := (List.finRange 3).countP fun i => !s.dev.lines.tray[i.val]
    ∃ t, exec .resetEnd s = .next t ∧ t.pending = s.pending ∧
      t.dev.now = 0 ∧ t.dev.hold = none ∧ t.dev.work = {} ∧ t.dev.causes = s.dev.causes ∧ t.dev.store = s.dev.store ∧
      t.dev.lines = { s.dev.lines with externalReset := false } ∧
      t.dev.ssu = {} ∧ t.dev.ptc = {} ∧ t.dev.zne = {} ∧ t.dev.perm = {} ∧ t.dev.edu = {} ∧ t.dev.wtb = {} ∧ t.dev.msa = {} ∧
      (∀ b : BayNo, (t.dev.supply b).capacity = 0 ∧ (t.dev.supply b).stamp = 0 ∧
        (t.dev.supply b).state = (if s.dev.lines.supplyPresence[b.val] = false then .absent
          else if s.dev.lines.supplyFault[b.val] then .faulted else .starting) ∧
        (t.dev.supply b).wait = (if (t.dev.supply b).state = .starting ∧ s.dev.lines.supplyPowerGood[b.val] = true then
          some 2000 else none)) ∧
      { t.dev.pbu with supplies := ({} : Pbu).supplies, overcommit := false } = {} ∧ t.dev.pbu.overcommit = true ∧
      t.dev.spc.queue = [] ∧
      (∀ n, t.dev.slot n = { present := s.dev.lines.slotPresence[n.val],
                             state := if s.dev.lines.slotPresence[n.val] then .off else .empty }) ∧
      t.dev.clc.groups = ({} : Clc).groups ∧ t.dev.clc.curves = ({} : Clc).curves ∧ t.dev.clc.gateEnd = 1000 ∧
      (∀ i : Fin 3, t.dev.clc.trays[i.val] =
        if s.dev.lines.tray[i.val] then ⟨true, .idle⟩ else ⟨false, .running 120000⟩) ∧
      (∀ f : Fin 6, t.dev.clc.fans[f.val] =
        { group := trayOf f, state := if s.dev.lines.tray[(trayOf f).val] then .ok else .absent }) ∧
      t.dev.lcu.counter = minute.getD 0 ∧ t.dev.lcu.minuteDue = 60000 ∧
      t.dev.lcu.borrowers = [] ∧ t.dev.lcu.graceLen = 4320 ∧ t.dev.lcu.savePending = false ∧
      (∀ x, (t.dev.tierRec x).held = 0 ∧ (t.dev.tierRec x).grace = .idle ∧
        (t.dev.tierRec x).total = totalOf t.dev.lcu.table x) ∧
      (∀ i : Fin 16, t.dev.lcu.table[i.val] = match s.dev.store.certs[i.val] with
        | .whole c lapsed =>
          if loads c then
            some ⟨c, lapsed || (decide (c.expiry ≠ 0) && (minute.isNone || decide (c.expiry ≤ minute.getD 0))), 0⟩
          else none
        | _ => none) ∧
      t.dev.lcu.op = (if minute.isSome then none
        else match (List.finRange 16).find? marks with
          | some i => some (.mark i)
          | none => some (.repairCounter 0)) ∧
      t.dev.atc.uptime = 0 ∧ (∀ c, (t.dev.cls c).notify = true) ∧
      (t.dev.cls clsCooling).count = 2 * out ∧ (t.dev.cls clsCooling).unnoticed = false ∧
      (∀ e ∈ (t.dev.cls clsCooling).last, ∃ f : Fin 6,
        s.dev.lines.tray[(trayOf f).val] = false ∧ e = ⟨.fan, f.val, 0x23, [], 0⟩) ∧
      t.dev.cls clsPower = { count := 1, last := some ⟨.chassis, 0, 0x35, [400, 0], 0⟩ } ∧
      (t.dev.cls clsLicense).count = (if minute.isSome then 0 else 1) + bad ∧
      (t.dev.cls clsLicense).unnoticed = (decide (0 < out) && decide (0 < (t.dev.cls clsLicense).count)) ∧
      (∀ c, (t.dev.cls c).last = none ↔ (t.dev.cls c).count = 0) ∧
      (∀ c, c ≠ clsCooling → c ≠ clsPower → c ≠ clsLicense → t.dev.cls c = {}) ∧
      ∀ l, (t.dev.link l).queue = [] ∧ (t.dev.link l).reply = none ∧ (t.dev.link l).errs = 0 ∧
        (t.dev.link l).overrun = 0 ∧ (t.dev.link l).rx = .idle ∧ (t.dev.link l).standby = false ∧
        (t.dev.link l).deadline = none ∧ (t.dev.link l).lastGood = none

/-! ## Sensors -/

/-- SWEEP_START with no sweep in progress holds the readings and takes the turns that come at once, each enabled channel acquired
(R1); when the turns come is the model's operand (entry 6). SENSOR READ, REFERENCE STATUS and THRESHOLD SET: what they return,
change and refuse (R14, R16, R17). The role codes of SENSOR READ and the two bytes of each reference code are the model's (entry
11); the four flags are sent one byte each (R187). -/
def Obligations.SweepStartAndSensorRequests : Prop :=
  ∀ (s : State) (l : Link) (f : Frame) (b : List Byte) (r : Readings) (turns : List Nat),
    let n := turns.head?.getD 0
    (s.running → s.dev.ssu.sweep = none →
      exec (.sweepStart r turns) s = .next { s with dev := Dev.pump { s.dev with
        now := max s.dev.now s.dev.ssu.sweepDue
        ssu := { s.dev.ssu with
          sweepDue := max s.dev.now s.dev.ssu.sweepDue + 100
          sweep := some
            { readings := r
              cur := Vector.ofFn fun c => if c.val < n then
                if s.dev.ssu.cur[c.val].enabled then .taken else .skipped else .waiting
              temp := Vector.ofFn fun i => if 8 + i.val < n then
                if s.dev.ssu.temp[i.val].enabled then .taken else .skipped else .waiting
              come := n, later := turns.tail } } } }) ∧
    (s.takes l 0x10#8 f b →
      match chanOf (ufld b 0 1) with
      | some c => exec (.sensorRead l) s = .next { s with dev := s.dev.replied l f .ok (s.dev.channelItems c) }
      | none => exec (.sensorRead l) s = .next { s with dev := s.dev.replied l f .badValue [] }) ∧
    (s.takes l 0x13#8 f b →
      if ufld b 0 1 < 16 then
        exec (.referenceStatus l) s = .next { s with
          dev := Dev.replied { s.dev with ssu := { s.dev.ssu with
            loPass := s.dev.ssu.loPass && !(ufld b 0 1).testBit 0, loFail := s.dev.ssu.loFail && !(ufld b 0 1).testBit 1
            hiPass := s.dev.ssu.hiPass && !(ufld b 0 1).testBit 2
            hiFail := s.dev.ssu.hiFail && !(ufld b 0 1).testBit 3 } } l f .ok
              [flag s.dev.ssu.loPass, flag s.dev.ssu.loFail, flag s.dev.ssu.hiPass, flag s.dev.ssu.hiFail,
                opt16 s.dev.ssu.loCode, opt16 s.dev.ssu.hiCode] }
      else exec (.referenceStatus l) s = .next { s with dev := s.dev.replied l f .badValue [] }) ∧
    (s.takes l 0x12#8 f b →
      match tempOf (ufld b 0 1) with
      | some i =>
        let w := clampI (-80) 300 (tfld b 1)
        let c := max (clampI (-80) 300 (tfld b 3)) w
        let x := max (clampI (-80) 300 (tfld b 5)) c
        let h := clampI 0 40 (ufld b 7 1)
        exec (.thresholdSet l) s = .next { s with
          dev := (s.dev.modLimits i fun t => { t with warning := w, critical := c, shutdown := x, hyst := h }).replied l f
            (if w = tfld b 1 ∧ c = tfld b 3 ∧ x = tfld b 5 ∧ h = ufld b 7 1 then .ok else .clamped)
            [i16 w, i16 c, i16 x, u8 h.toNat] }
      | none => exec (.thresholdSet l) s = .next { s with dev := s.dev.replied l f .badValue [] })

/-- SWEEP_END delivers every held sample at once. The reference flags and codes are set, and a failed check makes every current
sample NAR (R4, R5); each channel acquired takes its sample, and a window it fills closes with its rounded average, or with NAR
when it is poisoned, the third running making the channel FAILED (R6 to R8); each window that closes with a value moves its
channel's level (R11). First failures, channels that FAILED and level entries are counted in their classes (R12). The consumers
react: one budget evaluation exactly when an inlet window closed (R43), the overcurrent counts (R64), and the slot actions at
CRITICAL and SHUTDOWN (R70), exactly so for the reaction that comes first. No other block changes. That their order is an operand
(entry 7) and that they share one event (entry 32) are the model's choices. -/
def Obligations.SweepDelivers : Prop :=
  ∀ (s : State) (sw : Sweep) (order : List PubAction),
    s.running →
    s.dev.ssu.sweep = some sw →
    let loOk : Bool := decide (62 ≤ sw.readings.refLo.toNat ∧ sw.readings.refLo.toNat ≤ 66)
    let hiOk : Bool := decide (4030 ≤ sw.readings.refHi.toNat ∧ sw.readings.refHi.toNat ≤ 4034)
    let took (r : ChanRec) (x : Option Int) : ChanRec × Bool :=
      let sum : Int := r.acc + x.getD 0
      let bad : Bool := r.poisoned || x.isNone
      let n : Nat := 4 ^ r.k.val
      let recent : Reading := match x with | some v => .value v | none => .nar
      if r.count + 1 < n then
        ({ r with acc := sum, count := r.count + 1, poisoned := bad, recent := recent }, false)
      else if bad then
        ({ r with
          acc := 0, count := 0, poisoned := false, recent := recent, published := .nar, narRuns := min 3 (r.narRuns + 1)
          health := if 2 ≤ r.narRuns ∧ r.enabled = true then .failed else r.health }, true)
      else
        ({ r with
          acc := 0, count := 0, recent := recent, published := .value ((sum + (n / 2 : Nat)) / (n : Nat)), narRuns := 0
          health := .active }, true)
    let cur (c : SlotNo) : ChanRec × Bool :=
      let r := s.dev.ssu.cur[c.val]
      if sw.cur[c.val].delivers r.enabled then
        took r (if loOk && hiOk then some (sw.readings.cur[c.val].toNat : Int) else none)
      else (r, false)
    let temp (i : Fin 16) : ChanRec × Bool :=
      let r := s.dev.ssu.temp[i.val]
      if sw.temp[i.val].delivers r.enabled then
        took r (sw.readings.temp[i.val].bind fun v => if -80 ≤ v ∧ v ≤ 300 then some v else none)
      else (r, false)
    let level (i : Fin 16) : Level := match (temp i).2, (temp i).1.published with
      | true, .value a => s.dev.ssu.limits[i.val].judge a
      | _, _ => s.dev.ssu.limits[i.val].level
    let rises (i : Fin 16) (x : Level) : Bool :=
      decide (level i = x) && decide (s.dev.ssu.limits[i.val].level.code < x.code)
    let fails (old new : ChanRec) : Bool := decide (old.health = .active) && decide (new.health = .failed)
    ∃ t, exec (.sweepEnd order) s = .next t ∧
      (∀ c : SlotNo, t.dev.ssu.cur[c.val] = (cur c).1) ∧
      (∀ i : Fin 16, t.dev.ssu.temp[i.val] = (temp i).1) ∧
      (∀ i : Fin 16, t.dev.ssu.limits[i.val] = { s.dev.ssu.limits[i.val] with level := level i }) ∧
      { t.dev.ssu with cur := s.dev.ssu.cur, temp := s.dev.ssu.temp, limits := s.dev.ssu.limits } =
        { s.dev.ssu with
          sweep := none
          loCode := some sw.readings.refLo.toNat, hiCode := some sw.readings.refHi.toNat
          loPass := s.dev.ssu.loPass || loOk, loFail := s.dev.ssu.loFail || !loOk
          hiPass := s.dev.ssu.hiPass || hiOk, hiFail := s.dev.ssu.hiFail || !hiOk } ∧
      s.dev.counted t.dev clsSensor
        ((if loOk || s.dev.ssu.loFail then 0 else 1) + (if hiOk || s.dev.ssu.hiFail then 0 else 1) +
          ((List.finRange 8).countP fun c => fails s.dev.ssu.cur[c.val] (cur c).1) +
          (List.finRange 16).countP fun i => fails s.dev.ssu.temp[i.val] (temp i).1) ∧
      s.dev.counted t.dev clsWarning ((List.finRange 16).countP fun i => rises i .warning) ∧
      s.dev.counted t.dev clsCritical ((List.finRange 16).countP fun i => rises i .critical) ∧
      s.dev.counted t.dev clsShutdown ((List.finRange 16).countP fun i => rises i .shutdown) ∧
      (if (temp 0).2 || (temp 1).2 then t.dev.figured
      else (t.dev.pbu.raw, t.dev.pbu.redLost, t.dev.pbu.tin, t.dev.pbu.derate, t.dev.pbu.available) =
        (s.dev.pbu.raw, s.dev.pbu.redLost, s.dev.pbu.tin, s.dev.pbu.derate, s.dev.pbu.available)) ∧
      (s.dev.sound →
        (∀ n : SlotNo, (s.dev.slot n).state = .powered →
          match (cur n).2, (cur n).1.published with
          | true, .value v =>
            if v ≤ (s.dev.slot n).limit then (t.dev.slot n).state = .powered → (t.dev.slot n).ocCount = 0
            else if (s.dev.slot n).ocCount < (s.dev.slot n).ocDelay then
              (t.dev.slot n).state = .powered → (t.dev.slot n).ocCount = (s.dev.slot n).ocCount + 1
            else (t.dev.slot n).state ≠ .powered
          | _, _ => (t.dev.slot n).state = .powered → (t.dev.slot n).ocCount = (s.dev.slot n).ocCount) ∧
        (∀ n : SlotNo,
          let i := tempOfSlot n
          (rises i .critical = true → ∀ p, slotOf p = n → (s.dev.port p).state = .active →
            (t.dev.port p).state ≠ .active ∧
              (order.head? = some (.level i) → (t.dev.slot n).state = .powered → (t.dev.port p).state = .held)) ∧
          (rises i .shutdown = true → (t.dev.slot n).state.holdsBase = false ∧
            (order.head? = some (.level i) → (s.dev.slot n).state.holdsBase = true →
              (t.dev.slot n).state = .off ∧ (t.dev.slot n).cause = some .thermal ∧ s.dev.wentDown t.dev n))) ∧
        ∀ j : Fin 4,
          let i : Fin 16 := Fin.castLE (by omega) j
          rises i .shutdown = true → ∀ n, (t.dev.slot n).state.holdsBase = false ∧
            (order.head? = some (.level i) → (s.dev.slot n).state.holdsBase = true →
              (t.dev.slot n).state = .off ∧ (t.dev.slot n).cause = some .thermal ∧ s.dev.wentDown t.dev n)) ∧
      { t.dev with
        ssu := s.dev.ssu, pbu := s.dev.pbu, spc := s.dev.spc, ptc := s.dev.ptc, lcu := s.dev.lcu, zne := s.dev.zne,
        perm := s.dev.perm, edu := s.dev.edu, wtb := s.dev.wtb, atc := s.dev.atc, mli := s.dev.mli } = s.dev

/-- R7, with what R6 does before it: a value that fills a window whose poisoned flag is clear closes it with A = floor((S + n/2)
/ n), the nearest integer to S/n with ties upward, within the range of the samples. -/
def Obligations.WindowAverage : Prop :=
  ∀ (r : ChanRec) (v : Int),
    let n : Nat := 4 ^ r.k.val
    let sum := r.acc + v
    let a := (sum + (n / 2 : Nat)) / (n : Nat)
    r.poisoned = false →
    r.count + 1 = n →
    r.deliver (.value v) =
        ({ r with recent := .value v, published := .value a, narRuns := 0, health := .active, acc := 0, count := 0 }, true) ∧
      n * a ≤ sum + (n / 2 : Nat) ∧ sum + (n / 2 : Nat) < n * a + n ∧
      (2 * (n * a - sum)).natAbs ≤ n ∧ ((2 * (n * a - sum)).natAbs = n → sum < n * a) ∧
      ∀ lo hi : Int, n * lo ≤ sum → sum ≤ n * hi → lo ≤ a ∧ a ≤ hi

/-- R11: where the average reaches a threshold above the present level, the level becomes the highest such; else it drops while
the average lies below the threshold of the level less the hysteresis, and no further. -/
def Obligations.LevelMoves : Prop :=
  ∀ (t : LimitRec) (a : Int),
    let m := t.judge a
    (∀ x : Level, t.level.code < x.code → t.threshold x ≤ a →
      t.level.code < m.code ∧ t.threshold m ≤ a ∧ x.code ≤ m.code) ∧
    ((∀ x : Level, t.level.code < x.code → a < t.threshold x) →
      m.code ≤ t.level.code ∧ (m = .normal ∨ t.threshold m - t.hyst ≤ a) ∧
        ∀ x : Level, m.code < x.code → x.code ≤ t.level.code → a < t.threshold x - t.hyst)

/-- SENSOR CONFIGURE: the enabled state and the exponent, clamped to 0 to 3, are held; a change of either discards the window in
progress, disabling discards what was published and makes a temperature channel's level NORMAL (R9, R10, R15), a sample held in
the sweep in progress is lost (R2), the turns that come next find the channels as they then stand (R1, entry 6), and disabling an
inlet channel runs a budget evaluation (R42). -/
def Obligations.SensorConfigure : Prop :=
  ∀ (s : State) (l : Link) (f : Frame) (b : List Byte),
    s.takes l 0x11#8 f b →
    match chanOf (ufld b 0 1), yesNoOf (ufld b 1 1) with
    | some c, some v =>
      let k : Fin 4 := ⟨min 3 (ufld b 2 1), by omega⟩
      let old := s.dev.chan c
      let disables := old.enabled && !v
      ∃ t, exec (.sensorConfigure l) s = .next t ∧
        t.dev.newest l = some ⟨f.ty, f.tag, if ufld b 2 1 ≤ 3 then .ok else .clamped, [flag v, u8 k.val]⟩ ∧
        t.dev.chan c =
          (if disables then
            { old with enabled := false, k := k, acc := 0, count := 0, poisoned := false, recent := .absent,
                       published := .absent, narRuns := 0, health := .active }
          else if old.enabled = v ∧ old.k = k then old
          else { old with enabled := v, k := k, acc := 0, count := 0, poisoned := false }) ∧
        (∀ x : SlotNo, c ≠ .c x → t.dev.ssu.cur[x.val] = s.dev.ssu.cur[x.val]) ∧
        (∀ i : Fin 16, c ≠ .t i → t.dev.ssu.temp[i.val] = s.dev.ssu.temp[i.val]) ∧
        (∀ i : Fin 16, t.dev.ssu.limits[i.val] =
          if disables ∧ c = .t i then { s.dev.ssu.limits[i.val] with level := .normal } else s.dev.ssu.limits[i.val]) ∧
        { t.dev.ssu with
          cur := s.dev.ssu.cur, temp := s.dev.ssu.temp, limits := s.dev.ssu.limits, sweep := s.dev.ssu.sweep } =
            s.dev.ssu ∧
        t.dev.ssu.sweep = ((if disables then s.dev.loseSample c else s.dev).ssu.sweep.map fun sw =>
          match sw.later with
          | [] => sw
          | n :: rest => { sw with
              cur := Vector.ofFn fun x : SlotNo => if sw.come ≤ x.val ∧ x.val < sw.come + n then
                if t.dev.ssu.cur[x.val].enabled then .taken else .skipped else sw.cur[x.val]
              temp := Vector.ofFn fun i : Fin 16 => if sw.come ≤ 8 + i.val ∧ 8 + i.val < sw.come + n then
                if t.dev.ssu.temp[i.val].enabled then .taken else .skipped else sw.temp[i.val]
              come := sw.come + n, later := rest }) ∧
        (if disables ∧ (c = .t 0 ∨ c = .t 1) then
          t.dev.figured ∧
            { t.dev with
              ssu := s.dev.ssu, pbu := s.dev.pbu, spc := s.dev.spc, ptc := s.dev.ptc, lcu := s.dev.lcu, zne := s.dev.zne,
              perm := s.dev.perm, edu := s.dev.edu, wtb := s.dev.wtb, atc := s.dev.atc, mli := s.dev.mli } = s.dev
        else { t.dev with ssu := s.dev.ssu, atc := s.dev.atc, mli := s.dev.mli } = s.dev)
    | _, _ => exec (.sensorConfigure l) s = .next { s with dev := s.dev.replied l f .badValue [] }

/-! ## Cooling -/

/-- TACHOMETER_EDGE counts (R19). CONTROL_PERIOD judges every fan from the gate just ended, with a COOLING event for each that
becomes STOPPED or SLOW (R19, R20); gives each group its demand from its sensors or its manual duty, with the boost and the
overrides (R24 to R26), and its duty by the down-slew (R27); and drives the fans at their groups' duties (R28). That an absent
tray's fan has its edge count copied too is the model's choice (entry 31). -/
def Obligations.ControlPeriod : Prop :=
  ∀ (s : State) (e : Fin 6),
    s.running →
    let fan (f : Fin 6) : FanRec :=
      let r := s.dev.clc.fans[f.val]
      let least := r.rated * r.applied * 7 / 1000
      let g := { r with lastEdges := r.edges, measured := some (r.edges * 30), expMin := some least, edges := 0 }
      if s.dev.clc.trays[(trayOf f).val].present = false then g
      else if r.reentry then { g with reentry := false }
      else if r.edges = 0 then { g with state := .stopped, slowCount := 0 }
      else if r.edges * 30 < least then
        if r.state = .ok ∧ r.slowCount + 1 < 3 then { g with slowCount := r.slowCount + 1 }
        else { g with state := .slow, slowCount := 3 }
      else { g with state := .ok, slowCount := 0 }
    let sensor (g : GroupRec) (j : Fin 16) : Nat :=
      let c := s.dev.clc.curves[j.val]
      match s.dev.ssu.temp[j.val].published with
      | .nar => 100
      | .absent => g.dmin
      | .value t =>
        if t ≤ c.low then g.dmin
        else if c.high ≤ t then 100
        else g.dmin + (-((-((100 - g.dmin : Nat) * (t - c.low))) / (c.high - c.low))).toNat
    let demand (i : Fin 3) : Nat :=
      let g := s.dev.clc.groups[i.val]
      let sensors := (List.finRange 16).filter fun j => g.sensors.getLsbD j.val && s.dev.ssu.temp[j.val].enabled
      let d : Nat := match g.mode with
        | .auto => (sensors.map (sensor g)).foldl max g.dmin
        | .manual => min 100 (max g.manual g.dmin)
      if (∃ j : Fin 16, 4 ≤ j.val ∧ j.val ≤ 11 ∧ g.sensors.getLsbD j.val = true ∧
          (s.dev.level j = .critical ∨ s.dev.level j = .shutdown)) ∨
          ∃ x : Fin 3, s.dev.clc.trays[x.val].present = false then 100
      else if ∃ f : Fin 6, s.dev.clc.fans[f.val].group = i ∧ (fan f).state ≠ .ok then min 100 (d + g.boost)
      else d
    exec (.tachometerEdge e) s = .next { s with
      dev := (s.dev.modFan e fun r => { r with edges := if r.edges < 65535 then r.edges + 1 else r.edges }).pump } ∧
    ∃ t, exec .controlPeriod s = .next t ∧
      t.dev.now = max s.dev.now s.dev.clc.gateEnd ∧ t.dev.clc.gateEnd = t.dev.now + 1000 ∧
      (∀ i : Fin 3, t.dev.clc.groups[i.val] = { s.dev.clc.groups[i.val] with
        lastDemand := some (demand i)
        duty := if s.dev.clc.groups[i.val].duty ≤ demand i then demand i
          else max (demand i) (s.dev.clc.groups[i.val].duty - s.dev.clc.groups[i.val].downSlew) }) ∧
      (∀ f : Fin 6, t.dev.clc.fans[f.val] = { fan f with
        applied := (t.dev.clc.groups[s.dev.clc.fans[f.val].group.val]).duty
        highTicks := (400 * (t.dev.clc.groups[s.dev.clc.fans[f.val].group.val]).duty + 99) / 100 }) ∧
      s.dev.counted t.dev clsCooling ((List.finRange 6).countP fun f =>
        decide ((fan f).state ≠ s.dev.clc.fans[f.val].state ∧ ((fan f).state = .stopped ∨ (fan f).state = .slow))) ∧
      t.dev.clc.trays = s.dev.clc.trays ∧ t.dev.clc.curves = s.dev.clc.curves ∧
      { t.dev with now := s.dev.now, clc := s.dev.clc, atc := s.dev.atc, mli := s.dev.mli } = s.dev

/-- The trays: TRAY_REMOVED of a present tray starts its 120 s and makes its fans ABSENT, with a COOLING event for each (R21),
TRAY_INSERTED of an absent one ends the countdown and marks its fans for re-entry (R22), and TRAY_COUNTDOWN_EXPIRY of a RUNNING
countdown raises its COOLING event and powers every slot off with cause COOLING (R23, R73). -/
def Obligations.TrayEvents : Prop :=
  ∀ (s : State) (n : Fin 3),
    s.running →
    (s.dev.clc.trays[n.val].present = true →
      ∃ t, exec (.trayRemoved n) s = .next t ∧ t.dev.lines = (s.dev.setTrayLine n false).lines ∧
        t.dev.clc.trays = s.dev.clc.trays.set n.val ⟨false, .running (s.dev.now + 120000)⟩ ∧
        (∀ f : Fin 6, t.dev.clc.fans[f.val] =
          if trayOf f = n then { s.dev.clc.fans[f.val] with state := .absent, slowCount := 0, reentry := false }
          else s.dev.clc.fans[f.val]) ∧
        s.dev.counted t.dev clsCooling 2 ∧
        (∃ f : Fin 6, trayOf f = n ∧ (t.dev.cls clsCooling).last = some ⟨.fan, f.val, 0x23, [], s.dev.atc.uptime⟩) ∧
        { t.dev.clc with trays := s.dev.clc.trays, fans := s.dev.clc.fans } = s.dev.clc ∧
        { t.dev with lines := s.dev.lines, clc := s.dev.clc, atc := s.dev.atc, mli := s.dev.mli } = s.dev) ∧
    (s.dev.clc.trays[n.val].present = false →
      exec (.trayRemoved n) s = .next { s with dev := (s.dev.setTrayLine n false).pump } ∧
      ∃ t, exec (.trayInserted n) s = .next t ∧ t.dev.lines = (s.dev.setTrayLine n true).lines ∧
        t.dev.clc.trays = s.dev.clc.trays.set n.val ⟨true, .idle⟩ ∧
        (∀ f : Fin 6, t.dev.clc.fans[f.val] =
          if trayOf f = n then { s.dev.clc.fans[f.val] with state := .ok, slowCount := 0, reentry := true }
          else s.dev.clc.fans[f.val]) ∧
        { t.dev.clc with trays := s.dev.clc.trays, fans := s.dev.clc.fans } = s.dev.clc ∧
        { t.dev with lines := s.dev.lines, clc := s.dev.clc, atc := s.dev.atc, mli := s.dev.mli } = s.dev) ∧
    (s.dev.sound →
      match s.dev.clc.trays[n.val].countdown with
      | .running ends =>
        ∃ t, exec (.trayCountdownExpiry n) s = .next t ∧ t.dev.now = max s.dev.now ends ∧
          t.dev.clc = { s.dev.clc with
            trays := s.dev.clc.trays.set n.val { s.dev.clc.trays[n.val] with countdown := .expired } } ∧
          (∀ m, (s.dev.slot m).state.holdsBase = true →
            (t.dev.slot m).state = .off ∧ (t.dev.slot m).cause = some .cooling ∧ (t.dev.slot m).attempts = 0 ∧
              (t.dev.slot m).enable = false ∧ t.dev.heldBase m = none ∧
              ∀ p, slotOf p = m → (t.dev.port p).state = .offline) ∧
          (∀ m, (s.dev.slot m).state.holdsBase = false → t.dev.slot m = s.dev.slot m) ∧
          s.dev.counted t.dev clsCooling 1 ∧
          (t.dev.cls clsCooling).last = some ⟨.tray, n.val, 0x24, [], s.dev.atc.uptime⟩ ∧
          { t.dev with
            now := s.dev.now, clc := s.dev.clc, pbu := s.dev.pbu, spc := s.dev.spc, ptc := s.dev.ptc, lcu := s.dev.lcu,
            zne := s.dev.zne, perm := s.dev.perm, edu := s.dev.edu, wtb := s.dev.wtb, atc := s.dev.atc,
            mli := s.dev.mli } = s.dev
      | _ => True)

/-- GROUP SET, CURVE SET, FAN RATING SET and COOLING READ: what they hold, clamped, and return, and what they refuse; nothing
else of the part changes (R30 to R33). The reply's layout where chapter 12 gives none is the model's (entry 11). -/
def Obligations.CoolingRequests : Prop :=
  ∀ (s : State) (l : Link) (f : Frame) (b : List Byte),
    (s.takes l 0x19#8 f b →
      match idOf 3 (ufld b 0 1), groupModeOf (ufld b 4 1) with
      | some i, some mode =>
        if 64 ≤ ufld b 1 1 ∨ ∃ x : Fin 6, s.dev.clc.fans[x.val].group = i ∧ (ufld b 1 1).testBit x.val = false then
          exec (.groupSet l) s = .next { s with dev := s.dev.replied l f .badValue [] }
        else
          let g : GroupRec := { s.dev.clc.groups[i.val] with
            sensors := BitVec.ofNat 16 (ufld b 2 2), mode := mode, manual := clampN 0 100 (ufld b 5 2)
            dmin := clampN 20 100 (ufld b 7 2), boost := clampN 0 50 (ufld b 9 2), downSlew := clampN 1 10 (ufld b 11 2) }
          ∃ t, exec (.groupSet l) s = .next t ∧
            t.dev.clc = { s.dev.clc with
              groups := s.dev.clc.groups.set i.val g
              fans := Vector.ofFn fun x : Fin 6 => if (ufld b 1 1).testBit x.val then
                { s.dev.clc.fans[x.val] with group := i } else s.dev.clc.fans[x.val] } ∧
            t.dev.newest l = some ⟨f.ty, f.tag,
              if g.manual = ufld b 5 2 ∧ g.dmin = ufld b 7 2 ∧ g.boost = ufld b 9 2 ∧ g.downSlew = ufld b 11 2 then .ok
              else .clamped,
              [u16 (ufld b 2 2), u8 mode.code, u16 g.manual, u16 g.dmin, u16 g.boost, u16 g.downSlew,
                u8 (t.dev.fanSet 0), u8 (t.dev.fanSet 1), u8 (t.dev.fanSet 2)]⟩ ∧
            { t.dev with clc := s.dev.clc, atc := s.dev.atc, mli := s.dev.mli } = s.dev
      | _, _ => exec (.groupSet l) s = .next { s with dev := s.dev.replied l f .badValue [] }) ∧
    (s.takes l 0x18#8 f b →
      match tempOf (ufld b 0 1) with
      | some i =>
        let lo := clampI (-80) 299 (tfld b 1)
        let hi := max (clampI (-80) 300 (tfld b 3)) (lo + 1)
        exec (.curveSet l) s = .next { s with
          dev := Dev.replied { s.dev with clc := { s.dev.clc with curves := s.dev.clc.curves.set i.val ⟨lo, hi⟩ } } l f
            (if lo = tfld b 1 ∧ hi = tfld b 3 then .ok else .clamped) [i16 lo, i16 hi] }
      | none => exec (.curveSet l) s = .next { s with dev := s.dev.replied l f .badValue [] }) ∧
    (s.takes l 0x1A#8 f b →
      match idOf 6 (ufld b 0 1) with
      | some i =>
        exec (.fanRatingSet l) s = .next { s with
          dev := (s.dev.modFan i fun r => { r with rated := clampN 1200 30000 (ufld b 1 2) }).replied l f
            (if 1200 ≤ ufld b 1 2 ∧ ufld b 1 2 ≤ 30000 then .ok else .clamped) [u16 (clampN 1200 30000 (ufld b 1 2))] }
      | none => exec (.fanRatingSet l) s = .next { s with dev := s.dev.replied l f .badValue [] }) ∧
    (s.takes l 0x1B#8 f b →
      if ufld b 0 1 = 0 then
        exec (.coolingRead l) s = .next { s with
          dev := s.dev.replied l f .ok
            ((List.finRange 3).flatMap s.dev.groupItems ++
            (List.finRange 6).flatMap (fun x => s.dev.clc.fans[x.val].items) ++
            (List.finRange 3).flatMap fun x =>
              flag s.dev.clc.trays[x.val].present :: s.dev.countdownItems s.dev.clc.trays[x.val].countdown) }
      else if ufld b 0 1 = 1 then
        exec (.coolingRead l) s = .next { s with
          dev := s.dev.replied l f .ok
            (s.dev.clc.curves.toList.flatMap fun c => [i16 c.low, i16 c.high]) }
      else exec (.coolingRead l) s = .next { s with dev := s.dev.replied l f .badValue [] })

/-! ## The chassis power budget -/

/-- The seven supply events: for each state of the bay, the state and wait it moves to, with its stamp, a POWER event where it
leaves ONLINE and the budget evaluation that follows (R34 to R37, R42), or that only the line, or only the wait, changes. That
SUPPLY_WAIT_EXPIRY with no wait running does nothing is the model's choice (entry 2). -/
def Obligations.SupplyEvents : Prop :=
  ∀ (s : State) (b : BayNo),
    s.running →
    let old := (s.dev.supply b).state
    let wait := if s.dev.lines.supplyPowerGood[b.val] then some (s.dev.now + 2000) else none
    let only (d : Dev) : Host.Outcome State Fault Refusal := .next { s with dev := d.pump }
    (if old = .absent then
      ∃ t, exec (.supplyPresenceRise b) s = .next t ∧ t.dev.lines = (s.dev.setSupplyPresence b true).lines ∧
        t.dev.now = s.dev.now ∧
        if s.dev.lines.supplyFault[b.val] then s.dev.supplyMoved t.dev b .faulted none
        else s.dev.supplyMoved t.dev b .starting wait
    else exec (.supplyPresenceRise b) s = only (s.dev.setSupplyPresence b true)) ∧
    (if old ≠ .absent then
      ∃ t, exec (.supplyPresenceFall b) s = .next t ∧ t.dev.lines = (s.dev.setSupplyPresence b false).lines ∧
        t.dev.now = s.dev.now ∧ s.dev.supplyMoved t.dev b .absent none ∧
        (old = .online → min 255 ((s.dev.cls clsPower).count + 1) ≤ (t.dev.cls clsPower).count)
    else exec (.supplyPresenceFall b) s = only (s.dev.setSupplyPresence b false)) ∧
    (if old = .faulted ∧ s.dev.lines.supplyFault[b.val] = false then
      ∃ t, exec (.supplyPowerGoodRise b) s = .next t ∧ t.dev.lines = (s.dev.setSupplyPowerGood b true).lines ∧
        t.dev.now = s.dev.now ∧ s.dev.supplyMoved t.dev b .starting (some (s.dev.now + 2000))
    else if old = .starting ∧ (s.dev.supply b).wait = none then
      exec (.supplyPowerGoodRise b) s = only
        ((s.dev.setSupplyPowerGood b true).modSupply b fun r => { r with wait := some (s.dev.now + 2000) })
    else exec (.supplyPowerGoodRise b) s = only (s.dev.setSupplyPowerGood b true)) ∧
    (if old = .online then
      ∃ t, exec (.supplyPowerGoodFall b) s = .next t ∧ t.dev.lines = (s.dev.setSupplyPowerGood b false).lines ∧
        t.dev.now = s.dev.now ∧ s.dev.supplyMoved t.dev b .faulted none ∧
        min 255 ((s.dev.cls clsPower).count + 1) ≤ (t.dev.cls clsPower).count
    else if old = .starting then
      exec (.supplyPowerGoodFall b) s = only
        ((s.dev.setSupplyPowerGood b false).modSupply b fun r => { r with wait := none })
    else exec (.supplyPowerGoodFall b) s = only (s.dev.setSupplyPowerGood b false)) ∧
    (if old = .starting ∨ old = .online then
      ∃ t, exec (.supplyFaultAssert b) s = .next t ∧ t.dev.lines = (s.dev.setSupplyFault b true).lines ∧
        t.dev.now = s.dev.now ∧ s.dev.supplyMoved t.dev b .faulted none ∧
        (old = .online → min 255 ((s.dev.cls clsPower).count + 1) ≤ (t.dev.cls clsPower).count)
    else exec (.supplyFaultAssert b) s = only (s.dev.setSupplyFault b true)) ∧
    (if old = .faulted ∧ s.dev.lines.supplyPowerGood[b.val] = true then
      ∃ t, exec (.supplyFaultClear b) s = .next t ∧ t.dev.lines = (s.dev.setSupplyFault b false).lines ∧
        t.dev.now = s.dev.now ∧ s.dev.supplyMoved t.dev b .starting (some (s.dev.now + 2000))
    else exec (.supplyFaultClear b) s = only (s.dev.setSupplyFault b false)) ∧
    match old, (s.dev.supply b).wait with
    | .starting, some w =>
      ∃ t, exec (.supplyWaitExpiry b) s = .next t ∧ t.dev.lines = s.dev.lines ∧ t.dev.now = max s.dev.now w ∧
        s.dev.supplyMoved t.dev b .online none
    | _, _ => exec (.supplyWaitExpiry b) s = only s.dev

/-- R40: available is the derated raw available, rounded down, within its range for every raw figure four bays can give; and an
admission asks whether what is added still fits it (R44). -/
def Obligations.AvailablePower : Prop :=
  ∀ (d : Dev) (w : Nat),
    let e := d.figureRest
    e.pbu.available = d.pbu.raw * (100 - e.pbu.derate) / 100 ∧
      (d.pbu.raw ≤ 16000 → d.pbu.raw * (100 - e.pbu.derate) ≤ 1600000 ∧ e.pbu.available ≤ 16000) ∧
      (d.pbu.raw = 4000 → e.pbu.derate = 7 → e.pbu.available = 3720) ∧
      (d.pbu.raw = 3333 → e.pbu.derate = 3 → e.pbu.available = 3233) ∧
      (d.fits w = true ↔ d.pbu.allocated + w ≤ d.pbu.available) ∧
      (d.commit w).pbu.allocated = d.pbu.allocated + w ∧ (d.commit w).headroom = d.headroom - w

/-- What an evaluation sheds or restores. While allocated is within available it sheds nothing, and gives back from the restore
queue (R42, R50). A port left ACTIVE has a higher priority than every port shed, or the same priority and a lower number (R46). A
slot shed was not protected, goes OFF with cause BUDGET and releases its base, once no port is ACTIVE, and a slot left with its
base is protected or has a lower number (R47). Nothing is shed beyond need: what was shed before a port or a slot left allocated
above available (R46, R47). -/
def Obligations.ShedOrder : Prop :=
  ∀ d : Dev,
    let available := d.figureRaw.figureRest.pbu.available
    let fixed (p : PortNo) : Nat := if (d.port p).state = .active then 0 else (d.port p).admitted.getD 0
    (d.allocatedSum ≤ available →
      d.evaluate.spc = d.spc ∧ d.evaluate.pbu.overcommit = false ∧ (d.portsWf → d.restored d.evaluate) ∧
        ∀ p, p ∉ d.pbu.restoreQ → d.evaluate.port p = d.port p) ∧
    (∀ p q : PortNo,
      (d.port p).state = .active → (d.port q).state = .active →
      (d.evaluate.port p).state = .shed → (d.evaluate.port q).state = .active →
      (d.port p).priority < (d.port q).priority ∨ (d.port p).priority = (d.port q).priority ∧ q < p) ∧
    (available < d.allocatedSum → ∀ p : PortNo,
      (d.port p).state = .active → (d.evaluate.port p).state ≠ .active →
      let before (q : PortNo) : Bool := decide ((d.port q).priority < (d.port p).priority) ||
        decide ((d.port q).priority = (d.port p).priority) && decide (p < q)
      available < d.pbu.reserve + d.pbu.heldSum +
        ((List.finRange 64).map fun q => if before q then fixed q else (d.port q).admitted.getD 0).sum) ∧
    ∀ n : SlotNo,
      (d.slot n).state.holdsBase = true → (d.evaluate.slot n).state.holdsBase = false →
      (d.slot n).prot = false ∧ (d.evaluate.slot n).state = .off ∧ (d.evaluate.slot n).cause = some .budget ∧
        d.evaluate.heldBase n = none ∧ (∀ p, (d.evaluate.port p).state ≠ .active) ∧
        (∀ m : SlotNo, (d.slot m).state.holdsBase = true → (d.heldBase m).isSome = true →
          (d.evaluate.slot m).state.holdsBase = true → (d.slot m).prot = true ∨ m < n) ∧
        available < d.pbu.reserve + ((List.finRange 64).map fixed).sum +
          ((List.finRange 8).map fun m =>
            if (d.slot m).state.holdsBase = true ∧ (d.slot m).prot = false ∧ n < m then 0 else (d.heldBase m).getD 0).sum

/-- SUPPLY SET, BUDGET MODE SET, RESERVE SET and BUDGET READ: what each holds, when an evaluation follows, what each refuses and
returns (R53 to R56), and the restore pass after RESERVE SET lowered a figure (R50). The reply's layout where chapter 12 gives
none is the model's (entry 11). -/
def Obligations.PowerRequests : Prop :=
  ∀ (s : State) (l : Link) (f : Frame) (b : List Byte),
    (s.takes l 0x20#8 f b →
      match idOf 4 (ufld b 0 1) with
      | some n =>
        let v := clampN 0 4000 (ufld b 1 2)
        let st : Status := if ufld b 1 2 ≤ 4000 then .ok else .clamped
        if (s.dev.supply n).capacity = v then
          exec (.supplySet l) s = .next { s with
            dev := s.dev.replied l f st
              [u16 v, u8 (s.dev.supply n).state.code, u16 s.dev.pbu.available, u16 s.dev.pbu.allocated,
                i16 s.dev.headroom] }
        else
          ∃ t, exec (.supplySet l) s = .next t ∧
            t.dev.supply n = { s.dev.supply n with capacity := v, stamp := s.dev.wtb.next } ∧
            (∀ x, x ≠ n → t.dev.supply x = s.dev.supply x) ∧ t.dev.figured ∧
            (t.dev.pbu.mode, t.dev.pbu.reserve, t.dev.pbu.margin) = (s.dev.pbu.mode, s.dev.pbu.reserve, s.dev.pbu.margin) ∧
            t.dev.newest l = some ⟨f.ty, f.tag, st,
              [u16 v, u8 (s.dev.supply n).state.code, u16 t.dev.pbu.available, u16 t.dev.pbu.allocated,
                i16 t.dev.headroom]⟩ ∧
            { t.dev with
              pbu := s.dev.pbu, spc := s.dev.spc, ptc := s.dev.ptc, lcu := s.dev.lcu, zne := s.dev.zne, perm := s.dev.perm,
              edu := s.dev.edu, wtb := s.dev.wtb, atc := s.dev.atc, mli := s.dev.mli } = s.dev
      | none => exec (.supplySet l) s = .next { s with dev := s.dev.replied l f .badValue [] }) ∧
    (s.takes l 0x21#8 f b →
      match redundancyOf (ufld b 0 1) with
      | some m =>
        ∃ t, exec (.budgetModeSet l) s = .next t ∧ t.dev.pbu.mode = m ∧
          t.dev.newest l = some ⟨f.ty, f.tag, .ok,
            [u8 m.code, u16 t.dev.pbu.raw, u16 t.dev.pbu.available, u16 t.dev.pbu.allocated, i16 t.dev.headroom,
              flag t.dev.pbu.redLost, flag t.dev.pbu.overcommit]⟩ ∧
          t.dev.pbu.supplies = s.dev.pbu.supplies ∧ t.dev.pbu.reserve = s.dev.pbu.reserve ∧
          t.dev.pbu.margin = s.dev.pbu.margin ∧
          (if s.dev.pbu.mode = m then { t.dev with atc := s.dev.atc, mli := s.dev.mli } = s.dev else t.dev.figured) ∧
          { t.dev with
            pbu := s.dev.pbu, spc := s.dev.spc, ptc := s.dev.ptc, lcu := s.dev.lcu, zne := s.dev.zne, perm := s.dev.perm,
            edu := s.dev.edu, wtb := s.dev.wtb, atc := s.dev.atc, mli := s.dev.mli } = s.dev
      | none => exec (.budgetModeSet l) s = .next { s with dev := s.dev.replied l f .badValue [] }) ∧
    (s.takes l 0x22#8 f b →
      let r := clampN 0 2000 (ufld b 0 2)
      let m := clampN 0 200 (ufld b 2 2)
      if s.dev.pbu.reserve < r ∧ s.dev.pbu.available < s.dev.pbu.allocated + (r - s.dev.pbu.reserve) then
        exec (.reserveSet l) s = .next { s with dev := s.dev.replied l f .budget [] }
      else
        ∃ t, exec (.reserveSet l) s = .next t ∧ t.dev.pbu.reserve = r ∧ t.dev.pbu.margin = m ∧
          t.dev.newest l = some ⟨f.ty, f.tag, if r = ufld b 0 2 ∧ m = ufld b 2 2 then .ok else .clamped,
            [u16 r, u16 m, u16 t.dev.pbu.allocated, i16 t.dev.headroom]⟩ ∧
          t.dev.pbu.supplies = s.dev.pbu.supplies ∧ t.dev.pbu.available = s.dev.pbu.available ∧
          (if r < s.dev.pbu.reserve ∨ m < s.dev.pbu.margin then
            s.dev.sound → s.dev.restored t.dev
          else
            t.dev.pbu.allocated = s.dev.pbu.allocated + r - s.dev.pbu.reserve ∧
              { t.dev with pbu := s.dev.pbu, atc := s.dev.atc, mli := s.dev.mli } = s.dev) ∧
          { t.dev with
            pbu := s.dev.pbu, ptc := s.dev.ptc, zne := s.dev.zne, perm := s.dev.perm, edu := s.dev.edu, spc := s.dev.spc,
            wtb := s.dev.wtb, atc := s.dev.atc, mli := s.dev.mli } = s.dev) ∧
    (s.takes l 0x23#8 f b →
      exec (.budgetRead l) s = .next { s with dev := s.dev.replied l f .ok s.dev.budgetItems })

/-! ## Slots -/

/-- The slot faults of SLOT_POWER_GOOD_FALL, HOT_SWAP_FAULT_ASSERT and RAMP_TIMER_EXPIRY (R62, R63, R65), in the states in which
they are faults, and that only the line changes in the others; and an overcurrent count that passes the delay (R64). Whether the
fault line still stands asserted is an operand (entry 16), RAMP_TIMER_EXPIRY with no ramp timer running does nothing (entry 2),
and the fault of a publication is a part of its event (entry 32): the model's choices. -/
def Obligations.SlotFaults : Prop :=
  ∀ (s : State) (n : SlotNo) (holds : Bool),
    s.running →
    s.dev.sound →
    (if (s.dev.slot n).state = .powered then
      ∃ t, exec (.slotPowerGoodFall n) s = .next t ∧ t.dev.now = s.dev.now ∧
        t.dev.lines = (s.dev.setSlotPowerGood n false).lines ∧ s.dev.faulted t.dev n ∧
        (t.dev.ssu, t.dev.clc, t.dev.store, t.dev.msa) = (s.dev.ssu, s.dev.clc, s.dev.store, s.dev.msa)
    else exec (.slotPowerGoodFall n) s = .next { s with dev := (s.dev.setSlotPowerGood n false).pump }) ∧
    (if (s.dev.slot n).state = .powered ∨ (s.dev.slot n).state = .powering then
      ∃ t, exec (.hotSwapFaultAssert n holds) s = .next t ∧ t.dev.now = s.dev.now ∧
        t.dev.lines = (s.dev.setHotSwap n holds).lines ∧ s.dev.faulted t.dev n ∧
        (t.dev.ssu, t.dev.clc, t.dev.store, t.dev.msa) = (s.dev.ssu, s.dev.clc, s.dev.store, s.dev.msa)
    else exec (.hotSwapFaultAssert n holds) s = .next { s with dev := (s.dev.setHotSwap n holds).pump }) ∧
    (match (s.dev.slot n).state, (s.dev.slot n).ramp with
    | .powering, some w =>
      ∃ t, exec (.rampTimerExpiry n) s = .next t ∧ t.dev.now = max s.dev.now w ∧ t.dev.lines = s.dev.lines ∧
        s.dev.faulted t.dev n ∧
        (t.dev.ssu, t.dev.clc, t.dev.store, t.dev.msa) = (s.dev.ssu, s.dev.clc, s.dev.store, s.dev.msa)
    | _, _ => exec (.rampTimerExpiry n) s = .next { s with dev := s.dev.pump }) ∧
    match (s.dev.slot n).state, s.dev.ssu.cur[n.val].published with
    | .powered, .value v =>
      if v ≤ (s.dev.slot n).limit then s.dev.judgeCurrent n = s.dev.modSlot n fun r => { r with ocCount := 0 }
      else if (s.dev.slot n).ocCount + 1 ≤ (s.dev.slot n).ocDelay then
        s.dev.judgeCurrent n = s.dev.modSlot n fun r => { r with ocCount := r.ocCount + 1 }
      else s.dev.faulted (s.dev.judgeCurrent n) n
    | _, _ => s.dev.judgeCurrent n = s.dev

/-- SLOT POWER OFF and SLOT_REMOVAL (R71, R72, R76): from a state that holds a base the slot goes OFF with cause HOST, or EMPTY
with cause REMOVED, releasing all it held; SLOT POWER OFF of a LOCKED_OUT slot makes it OFF, of any other is refused. -/
def Obligations.SlotGoesOff : Prop :=
  ∀ (s : State) (l : Link) (f : Frame) (b : List Byte) (x : SlotNo),
    s.dev.sound →
    (s.takes l 0x2A#8 f b →
      match idOf 8 (ufld b 0 1) with
      | some n =>
        if (s.dev.slot n).state.holdsBase = true then
          ∃ t, exec (.slotPowerOff l) s = .next t ∧ t.dev.newest l = some ⟨f.ty, f.tag, .ok, [u8 1, u8 0]⟩ ∧
            (t.dev.slot n).state = .off ∧ (t.dev.slot n).cause = some .host ∧
            (t.dev.slot n).present = (s.dev.slot n).present ∧ s.dev.wentDown t.dev n ∧
            (t.dev.now, t.dev.lines, t.dev.ssu, t.dev.clc, t.dev.store, t.dev.msa) =
              (s.dev.now, s.dev.lines, s.dev.ssu, s.dev.clc, s.dev.store, s.dev.msa)
        else if (s.dev.slot n).state = .lockedOut then
          exec (.slotPowerOff l) s = .next { s with
            dev := Dev.replied
              ({ s.dev with wtb := { s.dev.wtb with next := nextStamp s.dev.wtb.next } }.modSlot n fun r =>
                { r with state := .off, attempts := 0, stamp := s.dev.wtb.next }) l f .ok
                  [u8 1, opt8 ((s.dev.slot n).cause.map SlotCause.code)] }
        else
          exec (.slotPowerOff l) s = .next { s with
            dev := s.dev.replied l f .wrongState
              [u8 (s.dev.slot n).state.code, opt8 ((s.dev.slot n).cause.map SlotCause.code)] }
      | none => exec (.slotPowerOff l) s = .next { s with dev := s.dev.replied l f .badValue [] }) ∧
    (s.running →
      if (s.dev.slot x).state = .empty then
        exec (.slotRemoval x) s = .next { s with dev := (s.dev.setSlotPresence x false).pump }
      else
        ∃ t, exec (.slotRemoval x) s = .next t ∧ t.dev.lines = (s.dev.setSlotPresence x false).lines ∧
          (t.dev.slot x).state = .empty ∧ (t.dev.slot x).present = false ∧ (t.dev.slot x).cause = some .removed ∧
          (t.dev.slot x).attempts = 0 ∧ ((s.dev.slot x).state.holdsBase = true → s.dev.wentDown t.dev x) ∧
          min 255 ((s.dev.cls clsSlot).count + 1) ≤ (t.dev.cls clsSlot).count ∧
          (t.dev.now, t.dev.ssu, t.dev.clc, t.dev.store, t.dev.msa) =
            (s.dev.now, s.dev.ssu, s.dev.clc, s.dev.store, s.dev.msa))

/-- SLOT_PRESENCE_RISE makes an EMPTY slot OFF (R57). SLOT POWER ON refuses a slot that is not OFF, a hot or tray-barred one and
one whose base does not fit, and else admits it (R59); it and RETRY_TIMER_EXPIRY bring the slot to the power-on queue (R58, R60),
a retry with its base and its attempts kept (R66). A line already asserted as the ramp starts acts at once (entries 17 and 32),
RETRY_TIMER_EXPIRY with no retry timer running does nothing (entry 2), and the reply's layout where chapter 12 gives none (entry
11): the model's choices. -/
def Obligations.SlotQueued : Prop :=
  ∀ (s : State) (l : Link) (f : Frame) (b : List Byte) (x : SlotNo),
    s.dev.sound →
    (s.running →
      if (s.dev.slot x).state = .empty then
        exec (.slotPresenceRise x) s = .next { s with
          dev := Dev.pump ({ s.dev.setSlotPresence x true with
            wtb := { s.dev.wtb with next := nextStamp s.dev.wtb.next } }.modSlot x fun r =>
              { r with state := .off, present := true, stamp := s.dev.wtb.next }) }
      else exec (.slotPresenceRise x) s = .next { s with dev := (s.dev.setSlotPresence x true).pump }) ∧
    (s.running →
      match (s.dev.slot x).state, (s.dev.slot x).retry with
      | .retryWait, some w =>
        ∃ t, exec (.retryTimerExpiry x) s = .next t ∧ t.dev.now = max s.dev.now w ∧ s.dev.queued t.dev x ∧
          (s.dev.lines.hotSwap[x.val] = false ∨ s.dev.noneRamping = false →
            t.dev.heldBase x = s.dev.heldBase x ∧ (t.dev.slot x).attempts = (s.dev.slot x).attempts ∧
              t.dev.pbu.allocated = s.dev.pbu.allocated) ∧
          (∀ m, (t.dev.slot m).settings = (s.dev.slot m).settings) ∧
          (t.dev.lines, t.dev.ssu, t.dev.clc, t.dev.store, t.dev.msa) =
            (s.dev.lines, s.dev.ssu, s.dev.clc, s.dev.store, s.dev.msa)
      | _, _ => exec (.retryTimerExpiry x) s = .next { s with dev := s.dev.pump }) ∧
    (s.takes l 0x29#8 f b →
      match idOf 8 (ufld b 0 1) with
      | some n =>
        if (s.dev.slot n).state ≠ .off ∨ s.dev.slotHot n = true ∨ (∃ i : Fin 4, s.dev.level (Fin.castLE (by omega) i) = .shutdown) ∨
            ∃ i : Fin 3, s.dev.clc.trays[i.val].present = false then
          exec (.slotPowerOn l) s = .next { s with dev := s.dev.replied l f .wrongState [] }
        else if s.dev.pbu.available < s.dev.pbu.allocated + (s.dev.slot n).base then
          exec (.slotPowerOn l) s = .next { s with dev := s.dev.replied l f .budget [] }
        else
          ∃ t, exec (.slotPowerOn l) s = .next t ∧ s.dev.queued t.dev n ∧
            t.dev.newest l = some ⟨f.ty, f.tag, .ok, [u8 (t.dev.slot n).state.code, opt8 (placeIn n t.dev.spc.queue)]⟩ ∧
            (s.dev.lines.hotSwap[n.val] = false ∨ s.dev.noneRamping = false →
              t.dev.heldBase n = some (s.dev.slot n).base ∧ (t.dev.slot n).attempts = 0 ∧
                t.dev.pbu.allocated = s.dev.pbu.allocated + (s.dev.slot n).base) ∧
            (∀ m, (t.dev.slot m).settings = (s.dev.slot m).settings) ∧
            (t.dev.now, t.dev.lines, t.dev.ssu, t.dev.clc, t.dev.store, t.dev.msa) =
              (s.dev.now, s.dev.lines, s.dev.ssu, s.dev.clc, s.dev.store, s.dev.msa)
      | none => exec (.slotPowerOn l) s = .next { s with dev := s.dev.replied l f .badValue [] })

/-- SLOT_POWER_GOOD_RISE of a POWERING slot makes it POWERED and sends its blade an update (R61, R145, R146); in any other state
only the line changes. STABLE_TIMER_EXPIRY of a POWERED slot clears its attempts (R67); with no stable timer running it does
nothing, the model's choice (entry 2). -/
def Obligations.SlotEntersPowered : Prop :=
  ∀ (s : State) (n : SlotNo),
    s.running →
    s.dev.sound →
    (if (s.dev.slot n).state = .powering then
      ∃ t, exec (.slotPowerGoodRise n) s = .next t ∧ t.dev.lines = (s.dev.setSlotPowerGood n true).lines ∧
        (t.dev.slot n).state = .powered ∧ (t.dev.slot n).enable = true ∧ (t.dev.slot n).ramp = none ∧
        (t.dev.slot n).stable = some s.dev.now ∧ (t.dev.slot n).ocCount = 0 ∧ (t.dev.slot n).statusSeen = false ∧
        (t.dev.slot n).attempts = (s.dev.slot n).attempts ∧ t.dev.heldBase n = s.dev.heldBase n ∧
        t.dev.step n = { state := .sending, sent := some t.dev.perm.gen } ∧
        (t.dev.slot n).tx =
          (s.dev.slot n).tx ++ [⟨t.dev.perm.gen, (portsOf n).map fun p => t.dev.perm.rows[p.val]⟩] ∧
        (∀ m, (t.dev.slot m).settings = (s.dev.slot m).settings) ∧
        (t.dev.now, t.dev.ssu, t.dev.clc, t.dev.store, t.dev.msa) =
          (s.dev.now, s.dev.ssu, s.dev.clc, s.dev.store, s.dev.msa)
    else exec (.slotPowerGoodRise n) s = .next { s with dev := (s.dev.setSlotPowerGood n true).pump }) ∧
    match (s.dev.slot n).state, (s.dev.slot n).stable with
    | .powered, some w =>
      exec (.stableTimerExpiry n) s = .next { s with
        dev := Dev.pump
          (if (s.dev.slot n).attempts = 0 then
            { s.dev with now := max s.dev.now (w + 60000) }.modSlot n fun r => { r with stable := none }
          else
            { s.dev with
              now := max s.dev.now (w + 60000)
              wtb := { s.dev.wtb with next := nextStamp s.dev.wtb.next } }.modSlot n fun r =>
                { r with stable := none, attempts := 0, stamp := s.dev.wtb.next }) }
    | _, _ => exec (.stableTimerExpiry n) s = .next { s with dev := s.dev.pump }

/-- SLOT UNLOCK, SLOT CONFIGURE and SLOT READ (R76, R78, R79): what each changes, refuses and returns; a change of a setting
takes one stamp, and the end of the protection of a slot that holds a base is followed by a budget evaluation. The place in the
power-on queue and the timers of SLOT READ are laid out as the model chooses (entry 11). -/
def Obligations.SlotRequests : Prop :=
  ∀ (s : State) (l : Link) (f : Frame) (b : List Byte),
    (s.takes l 0x2B#8 f b →
      match idOf 8 (ufld b 0 1) with
      | some n =>
        if (s.dev.slot n).state = .lockedOut then
          exec (.slotUnlock l) s = .next { s with
            dev := Dev.replied
              ({ s.dev with wtb := { s.dev.wtb with next := nextStamp s.dev.wtb.next } }.modSlot n fun r =>
                { r with state := .off, attempts := 0, stamp := s.dev.wtb.next }) l f .ok
                  [u8 1, opt8 ((s.dev.slot n).cause.map SlotCause.code)] }
        else
          exec (.slotUnlock l) s = .next { s with
            dev := s.dev.replied l f .wrongState
              [u8 (s.dev.slot n).state.code, opt8 ((s.dev.slot n).cause.map SlotCause.code)] }
      | none => exec (.slotUnlock l) s = .next { s with dev := s.dev.replied l f .badValue [] }) ∧
    (s.takes l 0x28#8 f b →
      match idOf 8 (ufld b 0 1), yesNoOf (ufld b 6 1), yesNoOf (ufld b 9 1) with
      | some n, some retry, some prot =>
        let old := s.dev.slot n
        let new := { old with
          base := clampN 0 800 (ufld b 1 2), limit := clampN 0 4095 (ufld b 3 2), ocDelay := clampN 0 15 (ufld b 5 1)
          retryEnable := retry, maxAttempts := clampN 1 7 (ufld b 7 1), retryDelay := clampN 1 255 (ufld b 8 1)
          prot := prot }
        let st : Status :=
          if new.base = ufld b 1 2 ∧ new.limit = ufld b 3 2 ∧ new.ocDelay = ufld b 5 1 ∧ new.maxAttempts = ufld b 7 1 ∧
            new.retryDelay = ufld b 8 1 then .ok else .clamped
        let items (x : SlotState) := [u16 new.base, u16 new.limit, u8 new.ocDelay, flag retry, u8 new.maxAttempts,
          u8 new.retryDelay, flag prot, u8 x.code]
        if new = old then exec (.slotConfigure l) s = .next { s with dev := s.dev.replied l f st (items old.state) }
        else if old.prot = true ∧ prot = false ∧ old.state.holdsBase = true then
          ∃ t, exec (.slotConfigure l) s = .next t ∧ (t.dev.slot n).settings = new.settings ∧
            (∀ m, m ≠ n → (t.dev.slot m).settings = (s.dev.slot m).settings) ∧ t.dev.figured ∧
            t.dev.newest l = some ⟨f.ty, f.tag, st, items (t.dev.slot n).state⟩ ∧
            { t.dev with
              pbu := s.dev.pbu, spc := s.dev.spc, ptc := s.dev.ptc, lcu := s.dev.lcu, zne := s.dev.zne, perm := s.dev.perm,
              edu := s.dev.edu, wtb := s.dev.wtb, atc := s.dev.atc, mli := s.dev.mli } = s.dev
        else
          exec (.slotConfigure l) s = .next { s with
            dev := Dev.replied
              ({ s.dev with wtb := { s.dev.wtb with next := nextStamp s.dev.wtb.next } }.modSlot n fun _ =>
                { new with stamp := s.dev.wtb.next }) l f st (items old.state) }
      | _, _, _ => exec (.slotConfigure l) s = .next { s with dev := s.dev.replied l f .badValue [] }) ∧
    (s.takes l 0x2C#8 f b →
      match idOf 8 (ufld b 0 1) with
      | some n => exec (.slotRead l) s = .next { s with dev := s.dev.replied l f .ok (s.dev.slotReadItems n) }
      | none => exec (.slotRead l) s = .next { s with dev := s.dev.replied l f .badValue [] })

/-- The health of a slot link (R74, R75): a bad frame, whole or cut off at a gap, adds 8 to a POWERED slot's count and makes it
passive from 128, with a SLOT event as the count passes 96 and as the slot becomes passive; a good frame of no use takes 1 off
and ends passivity at 95 or less once the current generation is acknowledged; a slot that is not POWERED counts nothing. That a
gap outside a frame does nothing is the model's choice (entry 19). -/
def Obligations.SlotFrameCounts : Prop :=
  ∀ (s : State) (n : SlotNo) (wire : List Byte),
    s.running →
    let old := s.dev.slot n
    let bad := { old with
      rx := .idle, health := min 255 (old.health + 8), passive := old.passive || decide (128 ≤ min 255 (old.health + 8)) }
    let good := { old with
      rx := .idle, health := old.health - 1
      passive := old.passive &&
        !(decide (old.health - 1 ≤ 95) && decide ((s.dev.step n).acked = some s.dev.perm.gen)) }
    let counts (c : Instr) (new : SlotRec) : Prop :=
      if old.state = .powered then
        let rises := decide (old.health < 96 ∧ 96 ≤ new.health)
        let starts := new.passive && !old.passive
        ∃ t, exec c s = .next t ∧ { t.dev.slot n with tx := old.tx } = new ∧
          s.dev.counted t.dev clsSlot ((if rises then 1 else 0) + if starts then 1 else 0) ∧
          (rises || starts → (t.dev.cls clsSlot).last =
            some ⟨.slot, n.val, if starts then 0x44 else 0x43, [(new.health : Int)], s.dev.atc.uptime⟩) ∧
          (∀ m, m ≠ n → { t.dev.slot m with tx := (s.dev.slot m).tx } = s.dev.slot m) ∧ t.dev.spc.queue = s.dev.spc.queue ∧
          (new.passive = old.passive → (t.dev.spc.slots = (s.dev.modSlot n fun _ => new).spc.slots) ∧ t.dev.edu = s.dev.edu ∧
            t.dev.perm = s.dev.perm) ∧
          { t.dev with spc := s.dev.spc, perm := s.dev.perm, edu := s.dev.edu, atc := s.dev.atc, mli := s.dev.mli } = s.dev
      else exec c s = .next { s with dev := (s.dev.modSlot n fun r => { r with rx := .idle }).pump }
    counts (.slotLinkBadFrame n) bad ∧ (old.rx = .inFrame → counts (.slotLinkGapTimeout n) bad) ∧
      (old.rx ≠ .inFrame → exec (.slotLinkGapTimeout n) s = .next { s with dev := s.dev.pump }) ∧
      (isOther wire = true → counts (.slotLinkOtherFrame n wire) good)

/-- A SLOT STATUS frame of a POWERED slot (R68, R69, R88, R89): every port of the slot takes its optic; a port that holds a seat
and whose optic is not its seated class goes OFFLINE with cause OPTIC, a SUSPENDED one being judged at the first frame alone; at
that frame every other SUSPENDED port becomes HELD on a hot slot, else ACTIVE or SHED. -/
def Obligations.SlotStatusFrame : Prop :=
  ∀ (s : State) (n : SlotNo) (wire : List Byte) (g : Frame) (optics : Vector (Option (Fin 4)) 8),
    s.running →
    s.dev.sound →
    (s.dev.slot n).state = .powered →
    arrival wire = .good g →
    slotFrameOf g = .status optics →
    ∃ t, exec (.slotStatus n wire) s = .next t ∧ (t.dev.slot n).statusSeen = true ∧
      (t.dev.slot n).health = (s.dev.slot n).health - 1 ∧ (t.dev.slot n).rx = .idle ∧
      (∀ i : Fin 8, (t.dev.port (portAt n i)).optic = optics[i.val] ∧
        let old := s.dev.port (portAt n i)
        let new := t.dev.port (portAt n i)
        match old.state with
        | .offline => new.state = .offline ∧ new.cause = old.cause
        | .suspended =>
          if (s.dev.slot n).statusSeen = true then new.state = .suspended ∧ new.seated = old.seated
          else if optics[i.val] = old.seated then
            new.seated = old.seated ∧
              if s.dev.slotHot n = true then new.state = .held else new.state = .active ∨ new.state = .shed
          else new.state = .offline ∧ new.cause = some .optic ∧ new.seat = .none
        | st =>
          if optics[i.val] = old.seated then
            new.seated = old.seated ∧ (new.state = st ∨ st = .shed ∧ (new.state = .active ∨ new.state = .held))
          else new.state = .offline ∧ new.cause = some .optic ∧ new.seat = .none) ∧
      (∀ p, slotOf p ≠ n → (t.dev.port p).optic = (s.dev.port p).optic) ∧
      (∀ m, (t.dev.slot m).settings = (s.dev.slot m).settings) ∧
      (t.dev.now, t.dev.lines, t.dev.ssu, t.dev.clc, t.dev.store, t.dev.msa) =
        (s.dev.now, s.dev.lines, s.dev.ssu, s.dev.clc, s.dev.store, s.dev.msa)

/-- UPDATE ACK from a POWERED slot (R148, R151, R152): the sent generation acknowledges a SENDING or OUT_OF_STEP slot, which is
then IN_STEP, or sent the newer generation at once (R145). Any other generation only counts as a good frame and leaves the step
record as it is, unless the end of passivity makes a new generation, which every slot then takes as R145 and R147 say. -/
def Obligations.UpdateAcknowledged : Prop :=
  ∀ (s : State) (n : SlotNo) (wire : List Byte) (g : Frame) (gen : Nat),
    s.running →
    s.dev.sound →
    (s.dev.slot n).state = .powered →
    arrival wire = .good g →
    slotFrameOf g = .ack gen →
    ∃ t, exec (.updateAck n wire) s = .next t ∧ (t.dev.slot n).health = (s.dev.slot n).health - 1 ∧
      (let old := s.dev.step n
      if (old.state = .sending ∨ old.state = .outOfStep) ∧ old.sent = some gen then
        t.dev.step n = { old with acked := some gen, response := none, resend := none
                                  state := if gen = t.dev.perm.gen ∧ old.dirty = false then .inStep else .sending
                                  sent := some t.dev.perm.gen, dirty := false }
      else t.dev.step n = if t.dev.perm.gen = s.dev.perm.gen then old else old.renewed t.dev.perm.gen) ∧
      (∀ m, m ≠ n →
        t.dev.step m = (if t.dev.perm.gen = s.dev.perm.gen then s.dev.step m else (s.dev.step m).renewed t.dev.perm.gen) ∧
          { t.dev.slot m with tx := (s.dev.slot m).tx } = s.dev.slot m) ∧
      { t.dev with spc := s.dev.spc, perm := s.dev.perm, edu := s.dev.edu, atc := s.dev.atc, mli := s.dev.mli } = s.dev

/-! ## Ports -/

/-- R91: PORT CONFIGURE refuses a tier that is neither BASE nor HIGH and a port that is not OFFLINE; else it holds the tier and
the priority clamped to 0 to 3, with a stamp where either differs, and replies what is held. Every reply about a port carries its
state and seat. -/
def Obligations.PortConfigure : Prop :=
  ∀ (s : State) (l : Link) (f : Frame) (b : List Byte),
    s.takes l 0x30#8 f b →
    match idOf 64 (ufld b 0 1) with
    | none => exec (.portConfigure l) s = .next { s with dev := s.dev.replied l f .badValue [] }
    | some p =>
      let r := s.dev.port p
      match tierOf (ufld b 1 1) with
      | none =>
        exec (.portConfigure l) s = .next { s with
          dev := s.dev.replied l f .badValue [u8 r.state.code, u8 r.seat.code] }
      | some tier =>
        let pr : Fin 4 := ⟨min 3 (ufld b 2 1), by omega⟩
        let st : Status := if ufld b 2 1 ≤ 3 then .ok else .clamped
        let items := [u8 (tierCode tier), u8 pr.val, u8 r.state.code, u8 r.seat.code]
        if r.state ≠ .offline then
          exec (.portConfigure l) s = .next { s with
            dev := s.dev.replied l f .wrongState [u8 r.state.code, u8 r.seat.code] }
        else if r.tier = tier ∧ r.priority = pr then
          exec (.portConfigure l) s = .next { s with dev := s.dev.replied l f st items }
        else
          exec (.portConfigure l) s = .next { s with
            dev := Dev.replied
              ({ s.dev with wtb := { s.dev.wtb with next := nextStamp s.dev.wtb.next } }.modPort p fun r =>
                { r with tier := tier, priority := pr, stamp := s.dev.wtb.next }) l f st items }

/-- PORT ACTIVATE (R92, R93, R114, R115): refused without an optic, off OFFLINE, on a slot that is not POWERED or is hot, without
a seat or without power; else the port is ACTIVE with its seat and its class power, both counted, and every other port is as
before. The reply's layout where chapter 12 gives none is the model's (entry 11). -/
def Obligations.PortActivate : Prop :=
  ∀ (s : State) (l : Link) (f : Frame) (b : List Byte),
    s.takes l 0x31#8 f b →
    s.dev.sound →
    match idOf 64 (ufld b 0 1) with
    | none => exec (.portActivate l) s = .next { s with dev := s.dev.replied l f .badValue [] }
    | some p =>
      let r := s.dev.port p
      let refuses (st : Status) : Prop :=
        exec (.portActivate l) s = .next { s with dev := s.dev.replied l f st [u8 r.state.code, u8 r.seat.code] }
      let base := s.dev.lcu.base
      let high := s.dev.lcu.high
      let choice : Option Seat := match r.tier with
        | .base =>
          if base.grace ≠ .idle then none else if base.held < base.total then some .base
          else if high.held < high.total ∧ high.grace = .idle then some .borrowed else none
        | .high => if high.grace ≠ .idle then none else if high.held < high.total then some .high else none
      match r.optic with
      | none => refuses .wrongState
      | some c =>
        if r.state ≠ .offline ∨ (s.dev.slot (slotOf p)).state ≠ .powered ∨ s.dev.slotHot (slotOf p) = true then
          refuses .wrongState
        else
          match choice with
          | none => refuses .noSeat
          | some seat =>
            if s.dev.pbu.available < s.dev.pbu.allocated + classPower c then refuses .budget
            else
              ∃ t, exec (.portActivate l) s = .next t ∧
                t.dev.port p = { r with
                  state := .active, seat := seat, seated := some c, admitted := some (classPower c)
                  stamp := s.dev.wtb.next } ∧
                (∀ q, q ≠ p → t.dev.port q = s.dev.port q) ∧
                t.dev.pbu = { s.dev.pbu with allocated := s.dev.pbu.allocated + classPower c } ∧
                t.dev.wtb = { s.dev.wtb with next := nextStamp s.dev.wtb.next } ∧
                t.dev.lcu = { s.dev.lcu with
                  base := if seat = .base then { base with held := base.held + 1 } else base
                  high := if seat = .base then high else { high with held := high.held + 1 }
                  borrowers := if seat = .borrowed then s.dev.lcu.borrowers ++ [p] else s.dev.lcu.borrowers } ∧
                t.dev.newest l = some ⟨f.ty, f.tag, .ok, [u8 seat.code, u16 (classPower c), u8 1, u8 seat.code]⟩ ∧
                { t.dev with
                  pbu := s.dev.pbu, spc := s.dev.spc, ptc := s.dev.ptc, lcu := s.dev.lcu, perm := s.dev.perm,
                  edu := s.dev.edu, wtb := s.dev.wtb, atc := s.dev.atc, mli := s.dev.mli } = s.dev

/-- PORT DEACTIVATE, PORT RESUME and PORT READ (R95, R96, R98): a port that holds a seat goes OFFLINE with cause HOST and loses
its seat, its power, its places and its attachments (R83 to R86), the seats are reviewed (R115, R116), and where it was ACTIVE a
restore pass runs (R95); a HELD port that fits becomes ACTIVE in its seated class. The layout of PORT READ's place in the restore
queue (entry 11) and a deadline past the counter's end held as the sum stands (entry 33) are the model's choices. -/
def Obligations.PortRequests : Prop :=
  ∀ (s : State) (l : Link) (f : Frame) (b : List Byte),
    s.dev.sound →
    (s.takes l 0x32#8 f b →
      match idOf 64 (ufld b 0 1) with
      | none => exec (.portDeactivate l) s = .next { s with dev := s.dev.replied l f .badValue [] }
      | some p =>
        if (s.dev.port p).state = .offline then
          exec (.portDeactivate l) s = .next { s with dev := s.dev.replied l f .wrongState [u8 0, u8 0] }
        else
          ∃ t, exec (.portDeactivate l) s = .next t ∧
            { t.dev.port p with stamp := (s.dev.port p).stamp } = { s.dev.port p with
              state := .offline, seat := .none, seated := none, admitted := none, cause := some .host } ∧
            t.dev.newest l = some ⟨f.ty, f.tag, .ok, [u8 0, u8 0]⟩ ∧
            (if (s.dev.port p).state = .active then s.dev.restored t.dev
            else t.dev.pbu = { s.dev.pbu with restoreQ := s.dev.pbu.restoreQ.erase p }) ∧
            (let seat := (s.dev.port p).seat
            let left : Dev := { s.dev.modPort p fun r => { r with state := .offline, seat := .none } with
              lcu := { s.dev.lcu with
                base := { s.dev.lcu.base with held := s.dev.lcu.base.held - if seat = .base then 1 else 0 }
                high := { s.dev.lcu.high with held := s.dev.lcu.high.held - if seat = .base then 0 else 1 }
                borrowers := s.dev.lcu.borrowers.erase p } }
            left.reviewed t.dev (totalOf s.dev.lcu.table) s.dev.lcu.counter false 0) ∧
            p ∉ t.dev.pbu.restoreQ ∧ p ∉ t.dev.lcu.borrowers ∧ (∀ e ∈ t.dev.zne.nodes, e.port ≠ p) ∧
            (∀ e ∈ s.dev.zne.nodes, e.port ≠ p → e ∈ t.dev.zne.nodes ∨ (t.dev.port e.port).state ≠ .active) ∧
            (∀ q, ((t.dev.port q).tier, (t.dev.port q).priority, (t.dev.port q).optic) =
              ((s.dev.port q).tier, (s.dev.port q).priority, (s.dev.port q).optic)) ∧
            { t.dev.zne with nodes := s.dev.zne.nodes } = s.dev.zne ∧
            { t.dev with
              pbu := s.dev.pbu, spc := s.dev.spc, ptc := s.dev.ptc, lcu := s.dev.lcu, zne := s.dev.zne, perm := s.dev.perm,
              edu := s.dev.edu, wtb := s.dev.wtb, atc := s.dev.atc, mli := s.dev.mli } = s.dev) ∧
    (s.takes l 0x33#8 f b →
      match idOf 64 (ufld b 0 1) with
      | none => exec (.portResume l) s = .next { s with dev := s.dev.replied l f .badValue [] }
      | some p =>
        let r := s.dev.port p
        if r.state ≠ .held ∨ (s.dev.slot (slotOf p)).state ≠ .powered ∨ s.dev.slotHot (slotOf p) = true ∨ r.optic = none then
          exec (.portResume l) s = .next { s with
            dev := s.dev.replied l f .wrongState [u8 r.state.code, u8 r.seat.code] }
        else if s.dev.pbu.available < s.dev.pbu.allocated + r.power then
          exec (.portResume l) s = .next { s with dev := s.dev.replied l f .budget [u8 r.state.code, u8 r.seat.code] }
        else
          ∃ t, exec (.portResume l) s = .next t ∧
            t.dev.port p = { r with state := .active, admitted := some r.power, stamp := s.dev.wtb.next } ∧
            (∀ q, q ≠ p → t.dev.port q = s.dev.port q) ∧
            t.dev.pbu = { s.dev.pbu with allocated := s.dev.pbu.allocated + r.power } ∧
            t.dev.newest l = some ⟨f.ty, f.tag, .ok, [u8 1, u8 r.seat.code]⟩ ∧
            { t.dev with
              pbu := s.dev.pbu, spc := s.dev.spc, ptc := s.dev.ptc, perm := s.dev.perm, edu := s.dev.edu, wtb := s.dev.wtb,
              atc := s.dev.atc, mli := s.dev.mli } = s.dev) ∧
    (s.takes l 0x34#8 f b →
      match ufld b 0 1, idOf 64 (ufld b 1 1) with
      | 0, some p => exec (.portRead l) s = .next { s with dev := s.dev.replied l f .ok (s.dev.portReadItems p) }
      | 1, _ =>
        exec (.portRead l) s = .next { s with
          dev := s.dev.replied l f .ok
            ((List.finRange 64).flatMap fun p => [u8 (s.dev.port p).state.code, u8 (s.dev.port p).seat.code]) }
      | _, _ => exec (.portRead l) s = .next { s with dev := s.dev.replied l f .badValue [] })

/-! ## Licensing -/

/-- MINUTE_TICK (R109, R110, R118, R119): the counter goes up by 1 to its end, certificates expire against it, the totals follow,
a save falls due at an expiry or a multiple of 60 (R104), the seats are reviewed, where a shortfall starts a grace or, with grace
length 0, is reclaimed at once, and a grace that meets its deadline ends with a reclaim. CERT_EXPIRY does one certificate's
expiry alone (entry 13), and nothing where none has come (entry 2); one save for both causes together (entry 29); a deadline past
the counter's end held as the sum stands (entry 33): the model's choices. -/
def Obligations.MinuteTick : Prop :=
  ∀ (s : State) (x : Fin 16),
    s.running →
    s.dev.sound →
    let n := if s.dev.lcu.counter < 4294967295 then s.dev.lcu.counter + 1 else s.dev.lcu.counter
    let falls (n : Nat) (e : CertEntry) : Bool := !e.expired && decide (e.data.expiry ≠ 0) && decide (e.data.expiry ≤ n)
    let any := (List.finRange 16).any fun i => (s.dev.lcu.table[i.val]).any (falls n)
    let saved (now : Nat) : Option StoreOp × Bool := match s.dev.lcu.op with
      | none => (some (.save now), false)
      | some (.mark i) => (some (.mark i), s.dev.lcu.savePending)
      | some (.repairCounter v) => (some (.repairCounter v), s.dev.lcu.savePending)
      | some op => (some op, true)
    (∃ t, exec .minuteTick s = .next t ∧ t.dev.now = max s.dev.now s.dev.lcu.minuteDue ∧
      t.dev.lcu.minuteDue = t.dev.now + 60000 ∧ t.dev.lcu.counter = n ∧
      (∀ i : Fin 16, (t.dev.lcu.table[i.val]).map (fun e => (e.data, e.expired)) =
        (s.dev.lcu.table[i.val]).map (fun e => (e.data, e.expired || falls n e))) ∧
      (∀ i : Fin 16, (s.dev.lcu.table[i.val]).any (falls n) = false → t.dev.lcu.table[i.val] = s.dev.lcu.table[i.val]) ∧
      (∀ y, (t.dev.tierRec y).total = totalOf t.dev.lcu.table y) ∧
      (t.dev.lcu.op, t.dev.lcu.savePending) =
        (if any = true ∨ n % 60 = 0 then saved n else (s.dev.lcu.op, s.dev.lcu.savePending)) ∧
      (∀ y, match (s.dev.tierRec y).grace with
        | .running w => w ≤ n → (t.dev.tierRec y).grace = .idle
        | .idle => True) ∧
      s.dev.reviewed t.dev (totalOf t.dev.lcu.table) n true
        ((List.finRange 16).countP fun i => (s.dev.lcu.table[i.val]).any (falls n)) ∧
      { t.dev with
        now := s.dev.now, pbu := s.dev.pbu, spc := s.dev.spc, ptc := s.dev.ptc, lcu := s.dev.lcu, zne := s.dev.zne,
        perm := s.dev.perm, edu := s.dev.edu, wtb := s.dev.wtb, atc := s.dev.atc, mli := s.dev.mli } = s.dev) ∧
    if (s.dev.lcu.table[x.val]).any (falls s.dev.lcu.counter) = true then
      ∃ t, exec (.certExpiry x) s = .next t ∧
        (t.dev.lcu.table[x.val]).map (fun e => (e.data, e.expired, e.stamp)) =
          (s.dev.lcu.table[x.val]).map (fun e => (e.data, true, s.dev.wtb.next)) ∧
        (∀ i : Fin 16, i ≠ x → t.dev.lcu.table[i.val] = s.dev.lcu.table[i.val]) ∧
        (∀ y, (t.dev.tierRec y).total = totalOf t.dev.lcu.table y) ∧
        (t.dev.lcu.op, t.dev.lcu.savePending) = saved s.dev.lcu.counter ∧
        s.dev.reviewed t.dev (totalOf t.dev.lcu.table) s.dev.lcu.counter false 1 ∧
        (let r := s.dev.reviewOf (totalOf t.dev.lcu.table) s.dev.lcu.counter false
        (r .base).2.2 = none → (r .high).2.2 = none → ∀ e ∈ s.dev.lcu.table[x.val], (t.dev.cls clsLicense).last =
          some ⟨.cert, e.data.id, 0x53, [(tierCode e.data.tier : Int), e.data.seats], s.dev.atc.uptime⟩) ∧
        { t.dev with
          pbu := s.dev.pbu, spc := s.dev.spc, ptc := s.dev.ptc, lcu := s.dev.lcu, zne := s.dev.zne, perm := s.dev.perm,
          edu := s.dev.edu, wtb := s.dev.wtb, atc := s.dev.atc, mli := s.dev.mli } = s.dev
    else exec (.certExpiry x) s = .next { s with dev := s.dev.pump }

/-- GRACE_EXPIRY of a tier whose grace has met its deadline reclaims exactly its shortfall (R119): that many ports of the tier go
OFFLINE with cause LICENSE, those without traffic first, then borrowers, then the lower priority and the higher number; the grace
is IDLE, with a LICENSE event. That GRACE_EXPIRY is an event of its own (entry 13), and that before the deadline or with no grace
running it does nothing (entry 2), are the model's choices. -/
def Obligations.GraceReclaims : Prop :=
  ∀ (s : State) (y : Tier),
    s.running →
    s.dev.sound →
    match (s.dev.tierRec y).grace with
    | .idle => exec (.graceExpiry y) s = .next { s with dev := s.dev.pump }
    | .running w =>
      if s.dev.lcu.counter < w then exec (.graceExpiry y) s = .next { s with dev := s.dev.pump }
      else
        ∃ t, exec (.graceExpiry y) s = .next t ∧ (t.dev.tierRec y).grace = .idle ∧
          (t.dev.tierRec y).total = (s.dev.tierRec y).total ∧ (t.dev.tierRec y).held = (s.dev.tierRec y).total ∧
          ((List.finRange 64).countP fun p =>
            decide ((t.dev.port p).state = .offline ∧ (s.dev.port p).state ≠ .offline)) = (s.dev.tierRec y).shortfall ∧
          (∀ p, (t.dev.port p).state = .offline → (s.dev.port p).state ≠ .offline →
            seatTier (s.dev.port p).seat = some y ∧ (t.dev.port p).cause = some .license ∧
              ∀ q, seatTier (s.dev.port q).seat = some y → (t.dev.port q).state ≠ .offline →
                s.dev.reclaimRank p < s.dev.reclaimRank q) ∧
          s.dev.counted t.dev clsLicense 1 ∧
          (t.dev.cls clsLicense).last =
            some ⟨.tier, tierCode y, 0x59, [((s.dev.tierRec y).shortfall : Int)], s.dev.atc.uptime⟩ ∧
          { t.dev with
            pbu := s.dev.pbu, spc := s.dev.spc, ptc := s.dev.ptc, lcu := s.dev.lcu, zne := s.dev.zne, perm := s.dev.perm,
            edu := s.dev.edu, wtb := s.dev.wtb, atc := s.dev.atc, mli := s.dev.mli } = s.dev

/-- CERT INSTALL and CERT REMOVE start a store write, or are refused in their rules' order and change nothing (R104, R105, R107);
LICENSE READ and GRACE SET (R121, R122). The validation code is the verifier's, of which nothing is known (entry 12). The reply's
layout where chapter 12 gives none, and BASE before HIGH in it, are the model's choices (entry 11). -/
def Obligations.CertRequests : Prop :=
  ∀ (s : State) (l : Link) (f : Frame) (b : List Byte),
    (s.takes l 0x38#8 f b →
      let refuses (st : Status) (items : List Item) : Prop :=
        exec (.certInstall l) s = .next { s with dev := s.dev.replied l f st items }
      let starts (op : StoreOp) : Prop :=
        exec (.certInstall l) s = .next { s with
          dev := Dev.pump
            ({ s.dev with lcu := { s.dev.lcu with op := some op } }.modLink l fun r => { r with inService := true }) }
      if s.dev.lcu.op ≠ none then refuses .busy []
      else
        match tierOf (ufld b 4 1) with
        | none => refuses .badValue []
        | some tier =>
          let c : CertData := ⟨ufld b 0 4, tier, ufld b 5 1, ufld b 6 4, ufld b 10 8, ufld b 18 16⟩
          if c.id = 0 then refuses .badValue []
          else if c.seats < 1 ∨ 64 < c.seats then refuses .invalidCert [u8 1]
          else if c.serial ≠ Config.chassisSerial then refuses .invalidCert [u8 2]
          else if c.code ≠ Config.validationCode c.id (tierCode tier) c.seats c.expiry c.serial then refuses .invalidCert [u8 3]
          else if c.expiry ≠ 0 ∧ c.expiry ≤ s.dev.lcu.counter then refuses .invalidCert [u8 4]
          else
            match placeOfId s.dev.lcu.table c.id, freePlace s.dev.lcu.table with
            | some i, _ => starts (.install i c l)
            | none, some i => starts (.install i c l)
            | none, none => refuses .tableFull []) ∧
    (s.takes l 0x39#8 f b →
      let refuses (st : Status) : Prop := exec (.certRemove l) s = .next { s with dev := s.dev.replied l f st [] }
      if s.dev.lcu.op ≠ none then refuses .busy
      else if ufld b 0 4 = 0 then refuses .badValue
      else
        match placeOfId s.dev.lcu.table (ufld b 0 4) with
        | none => refuses .notFound
        | some i =>
          exec (.certRemove l) s = .next { s with
            dev := Dev.pump
              ({ s.dev with lcu := { s.dev.lcu with op := some (.erase i l f.cond) } }.modLink l fun r =>
                { r with inService := true }) }) ∧
    (s.takes l 0x3A#8 f b →
      if ufld b 0 1 = 0 ∧ ufld b 1 1 ≤ 15 then
        exec (.licenseRead l) s = .next { s with dev := s.dev.replied l f .ok (s.dev.tableItems (ufld b 1 1)) }
      else if ufld b 0 1 = 1 then
        exec (.licenseRead l) s = .next { s with dev := s.dev.replied l f .ok s.dev.seatItems }
      else exec (.licenseRead l) s = .next { s with dev := s.dev.replied l f .badValue [] }) ∧
    (s.takes l 0x3B#8 f b →
      let n := clampN 0 10080 (ufld b 0 2)
      exec (.graceSet l) s = .next { s with
        dev := Dev.replied { s.dev with lcu := { s.dev.lcu with graceLen := n } } l f
          (if ufld b 0 2 ≤ 10080 then .ok else .clamped)
          [u16 n, u8 (graceCode s.dev.lcu.base.grace), u8 (graceCode s.dev.lcu.high.grace)] })

/-- The store's completions: a counter save, a repair write, an install and an erase, each with its success and its failure, the
pending save that then starts, the next step of a repair, the seat review after an install or an erase (R116 to R119), and the
reply to the link whose request waited, unless it is DOWN (R103, R104, R106, R107, R109, R112, R170). The detail of a failed
counter save (entry 25), BASE before HIGH in a reply (entry 11) and a deadline past the counter's end (entry 33) are the model's
choices. -/
def Obligations.StoreCompletions : Prop :=
  ∀ (s : State) (ok : Bool),
    s.running →
    s.dev.sound →
    let after : Option StoreOp × Bool :=
      if s.dev.lcu.savePending then (some (.save s.dev.lcu.counter), false) else (none, false)
    let done (d : Dev) : Dev := { d with lcu := { d.lcu with op := after.1, savePending := after.2 } }
    let failed (i op : Nat) (d : Dev) (details : List Int) : Dev := d.raise clsLicense .store i op details
    let waits (l : Link) (st : Status) (items : List Item) (t : State) : Prop :=
      (s.dev.link l).inService = true →
        ∀ f ∈ (s.dev.link l).queue.head?, (t.dev.link l).inService = false ∧ (t.dev.link l).queue = (s.dev.link l).queue.tail ∧
          (s.dev.down l = false → t.dev.newest l = some ⟨f.ty, f.tag, st, items⟩)
    let unmarked (j : Fin 16) : Bool := (s.dev.lcu.table[j.val]).isSome && match s.dev.store.certs[j.val] with
      | .whole c false => decide (c.expiry ≠ 0)
      | _ => false
    let reviewed (t : State) : Prop := s.dev.reviewed t.dev (totalOf t.dev.lcu.table) s.dev.lcu.counter false 0
    match s.dev.lcu.op with
    | some (.save v) =>
      exec (.counterSaveComplete ok) s = .next { s with
        dev := Dev.pump (done (if ok then { s.dev with store := { s.dev.store with counter := .whole v } }
          else failed 16 0x52 s.dev [v])) }
    | some (.mark i) =>
      exec (.repairWriteComplete ok) s = .next { s with
        dev := Dev.pump { (if ok then
            { s.dev with store := { s.dev.store with
              certs := s.dev.store.certs.set i.val (match s.dev.store.certs[i.val] with
                | .whole c _ => .whole c true
                | r => r) } }
          else failed i.val 0x56 s.dev []) with
            lcu := { s.dev.lcu with
              op := match (List.finRange 16).find? fun j => decide (i < j) && unmarked j with
                | some j => some (.mark j)
                | none => some (.repairCounter s.dev.lcu.counter) } } }
    | some (.repairCounter v) =>
      exec (.repairWriteComplete ok) s = .next { s with
        dev := Dev.pump (done (if ok then { s.dev with store := { s.dev.store with counter := .whole v } }
          else failed 16 0x56 s.dev [])) }
    | some (.install i c l) =>
      ∃ t, exec (.certInstallComplete ok) s = .next t ∧ (t.dev.lcu.op, t.dev.lcu.savePending) = after ∧
        (if ok then
          t.dev.store = { s.dev.store with certs := s.dev.store.certs.set i.val (.whole c false) } ∧
            t.dev.lcu.table = s.dev.lcu.table.set i.val (some ⟨c, false, s.dev.wtb.next⟩) ∧
            waits l .ok ([u32 c.id, u8 i.val, u8 0, flag (s.dev.lcu.table[i.val]).isSome] ++ t.dev.tierFigures) t ∧ reviewed t
        else
          t.dev.store = s.dev.store ∧ t.dev.lcu.table = s.dev.lcu.table ∧ waits l .storeFault [] t ∧
            s.dev.counted t.dev clsLicense 1 ∧
            (t.dev.cls clsLicense).last = some ⟨.store, i.val, 0x51, [(c.id : Int), 0], s.dev.atc.uptime⟩) ∧
        (∀ y, (t.dev.tierRec y).total = totalOf t.dev.lcu.table y) ∧ t.dev.wtb.entries = s.dev.wtb.entries ∧
        { t.dev with
          pbu := s.dev.pbu, spc := s.dev.spc, ptc := s.dev.ptc, lcu := s.dev.lcu, store := s.dev.store, zne := s.dev.zne,
          perm := s.dev.perm, edu := s.dev.edu, wtb := s.dev.wtb, atc := s.dev.atc, mli := s.dev.mli } = s.dev
    | some (.erase i l k) =>
      ∃ t, exec (.certRemoveComplete ok) s = .next t ∧ (t.dev.lcu.op, t.dev.lcu.savePending) = after ∧
        (if ok then
          t.dev.store = { s.dev.store with certs := s.dev.store.certs.set i.val .nothing } ∧
            t.dev.lcu.table = s.dev.lcu.table.set i.val none ∧ waits l .ok t.dev.tierFigures t ∧ reviewed t ∧
            t.dev.wtb.entries = (match k with
              | some k => if k.consume then
                  s.dev.wtb.entries.filter fun w => !(decide (w.owner = l) && k.ids.contains w.id)
                else s.dev.wtb.entries
              | none => s.dev.wtb.entries)
        else
          t.dev.store = s.dev.store ∧ t.dev.lcu.table = s.dev.lcu.table ∧ waits l .storeFault [] t ∧
            t.dev.wtb.entries = s.dev.wtb.entries ∧ s.dev.counted t.dev clsLicense 1 ∧
            (t.dev.cls clsLicense).last = some ⟨.store, i.val, 0x51,
              [(((s.dev.lcu.table[i.val]).map (·.data.id)).getD 0 : Nat), 1], s.dev.atc.uptime⟩) ∧
        (∀ y, (t.dev.tierRec y).total = totalOf t.dev.lcu.table y) ∧
        { t.dev with
          pbu := s.dev.pbu, spc := s.dev.spc, ptc := s.dev.ptc, lcu := s.dev.lcu, store := s.dev.store, zne := s.dev.zne,
          perm := s.dev.perm, edu := s.dev.edu, wtb := s.dev.wtb, atc := s.dev.atc, mli := s.dev.mli } = s.dev
    | none => True

/-! ## Zoning -/

/-- ZONE BEGIN, ZONE PUT, ZONE DELETE, ZONE DEFAULT and ZONE ABORT (R127 to R132): each refusal in its rule's order, each
discarding an assembly it finds, and what the staged set is afterwards; nothing else of the part changes. What a success reply
says of the discarded assembly is sent as in a refusal (entry 11, the model's choice). -/
def Obligations.ZoneTransaction : Prop :=
  ∀ (s : State) (l : Link) (f : Frame) (b : List Byte),
    let gone : List Item := match s.dev.zne.assembly with
      | none => [u8 0, u16 0]
      | some a => [u8 1, u16 a.id]
    let after (st : Option Staged) (a : Option Assembly) (code : Status) (items : List Item) :
        Host.Outcome State Fault Refusal :=
      .next { s with
        dev := Dev.replied { s.dev with zne := { s.dev.zne with staged := st, assembly := a } } l f code items }
    let refusal (code : Status) := after s.dev.zne.staged none code gone
    (s.takes l 0x40#8 f b →
      exec (.zoneBegin l) s =
        if s.dev.zne.staged = none then
          let zs := s.dev.zne.zones.map (·.zone)
          after (some ⟨zs, s.dev.zne.mode, s.dev.zne.gen⟩) none .ok
            ([u32 s.dev.zne.gen, u16 zs.length, u16 (entriesOf zs)] ++ gone)
        else refusal .wrongState) ∧
    (s.takes l 0x42#8 f b →
      exec (.zoneDelete l) s =
        match s.dev.zne.staged with
        | none => refusal .noTransaction
        | some st =>
          let id := ufld b 0 2
          let zs := st.zones.filter fun z => z.id ≠ id
          if id = 0 then refusal .badValue
          else if (st.zones.map (·.id)).contains id = true then
            after (some { st with zones := zs }) none .ok ([u16 zs.length, u16 (entriesOf zs)] ++ gone)
          else refusal .notFound) ∧
    (s.takes l 0x43#8 f b →
      exec (.zoneDefault l) s =
        match s.dev.zne.staged with
        | none => refusal .noTransaction
        | some st =>
          match accessOf (ufld b 0 1) with
          | none => refusal .badValue
          | some m => after (some { st with mode := m }) none .ok gone) ∧
    (s.takes l 0x44#8 f b →
      exec (.zoneAbort l) s =
        if s.dev.zne.staged = none then refusal .noTransaction else after none none .ok gone) ∧
    (s.takes l 0x41#8 f b →
      let (id, index, count, n) := (ufld b 0 2, ufld b 2 1, ufld b 3 1, ufld b 4 1)
      exec (.zonePut l) s =
        match s.dev.zne.staged, membersOf b n with
        | none, _ => refusal .noTransaction
        | some _, none => refusal .badValue
        | some st, some ms =>
          if id = 0 ∨ count < 1 ∨ 8 < count ∨ count ≤ index ∨ 48 < n then refusal .badValue
          else
            let before : Option (List Member) :=
              if index = 0 then some [] else
                match s.dev.zne.assembly with
                | some a => if a.id = id ∧ a.parts = count ∧ a.next = index then some a.members else none
                | none => none
            match before with
            | none => refusal .badValue
            | some old =>
              let all := old ++ ms
              let lost : List Item := if index = 0 then gone else [u8 0, u16 0]
              if index + 1 < count then
                after (some st) (some ⟨id, count, index + 1, all⟩) .ok ([u16 id, u8 (index + 1), u16 all.length] ++ lost)
              else if all.Nodup then
                let zs := insertZone ⟨id, all⟩ st.zones
                if all.length < 1 ∨ 64 < all.length ∨ 128 < zs.length ∨ 2048 < entriesOf zs then
                  after (some st) none .tooLarge lost
                else
                  after (some { st with zones := zs }) none .ok
                    ([u16 id, flag (st.zones.any fun z => decide (z.id = id)), u16 zs.length, u16 (entriesOf zs)] ++ lost)
              else after (some st) none .duplicate lost)

/-- ZONE COMMIT (R125, R133), while both zone sets keep their limits (R124): the staged set becomes the active set whole with the
next generation; a zone whose members are unchanged keeps its stamp, the others take the next stamps in ascending id and the set
the stamp after them; the matrix is compiled from it (R138, R139) and the rows re-formed (R144). With the transaction CLOSED it
is refused. The reply's layout where chapter 12 gives none is the model's (entry 11). -/
def Obligations.ZoneCommit : Prop :=
  ∀ (s : State) (l : Link) (f : Frame) (b : List Byte),
    s.takes l 0x45#8 f b →
    s.dev.zonesWf →
    let gone : List Item := match s.dev.zne.assembly with
      | none => [u8 0, u16 0]
      | some a => [u8 1, u16 a.id]
    let after (k : Nat) : Nat := (List.replicate k ()).foldl (fun n _ => nextStamp n) s.dev.wtb.next
    match s.dev.zne.staged with
    | none =>
      exec (.zoneCommit l) s = .next { s with
        dev := Dev.replied { s.dev with zne := { s.dev.zne with assembly := none } } l f .noTransaction gone }
    | some st =>
      let fresh := st.zones.countP fun z => !s.dev.zne.zones.any fun a => decide (a.zone = z)
      ∃ t, exec (.zoneCommit l) s = .next t ∧
        t.dev.zne.zones.map (·.zone) = st.zones ∧ t.dev.zne.mode = st.mode ∧
        t.dev.zne.gen = (if s.dev.zne.gen = 4294967295 then 1 else s.dev.zne.gen + 1) ∧
        t.dev.zne.staged = none ∧ t.dev.zne.assembly = none ∧ t.dev.zne.nodes = s.dev.zne.nodes ∧
        (∀ a ∈ t.dev.zne.zones,
          match s.dev.zne.zones.find? fun x => decide (x.zone = a.zone) with
          | some x => a.stamp = x.stamp
          | none => a.stamp = after
              ((st.zones.takeWhile fun z => decide (z ≠ a.zone)).countP fun z =>
                !s.dev.zne.zones.any fun x => decide (x.zone = z))) ∧
        t.dev.zne.stamp = after fresh ∧ t.dev.wtb = { s.dev.wtb with next := after (fresh + 1) } ∧
        t.dev.perm.reach = reachMatrix t.dev.zne ∧ t.dev.perm.rows = formRows t.dev.perm.reach t.dev.perm.eligible ∧
        t.dev.newest l = some ⟨f.ty, f.tag, .ok,
          [u32 t.dev.zne.gen, u48 t.dev.zne.stamp, u16 st.zones.length, u16 (entriesOf st.zones)] ++ gone⟩ ∧
        { t.dev with
          spc := s.dev.spc, zne := s.dev.zne, perm := s.dev.perm, edu := s.dev.edu, wtb := s.dev.wtb, atc := s.dev.atc,
          mli := s.dev.mli } = s.dev

/-- R138: port `q` is in the row of port `p` exactly when they differ and some zone of the active set resolves to both, or the
default access mode is OPEN and no zone resolves to either. So the matrix is symmetric and no row holds its own port; and sets of
one mode and one attachment table whose zones have the same members, whatever their order and ids, give one matrix. -/
def Obligations.ReachCompiled : Prop :=
  ∀ (z : Zne) (p q : PortNo),
    let stands (a : ActiveZone) (r : PortNo) : Prop := ∃ m ∈ a.zone.members,
      match m with
      | .port x => x = r
      | .node n => ((z.nodes.find? fun e => decide (e.node = n)).map (·.port)) = some r
    (inMask (reachMatrix z)[p.val] q = true ↔
      p ≠ q ∧ ((∃ a ∈ z.zones, stands a p ∧ stands a q) ∨
        z.mode = .opened ∧ ∀ a ∈ z.zones, ¬ stands a p ∧ ¬ stands a q)) ∧
    inMask (reachMatrix z)[p.val] q = inMask (reachMatrix z)[q.val] p ∧ inMask (reachMatrix z)[p.val] p = false ∧
    ∀ y : Zne, y.mode = z.mode → y.nodes = z.nodes →
      (∀ a ∈ z.zones, ∃ b ∈ y.zones, ∀ m, m ∈ b.zone.members ↔ m ∈ a.zone.members) →
      (∀ b ∈ y.zones, ∃ a ∈ z.zones, ∀ m, m ∈ a.zone.members ↔ m ∈ b.zone.members) →
      reachMatrix y = reachMatrix z

/-- NODE ATTACH, NODE DETACH, NODE READ and ZONE READ (R134, R135, R137, R140, R141): the attachment made, moved or removed, the
recompile when its node stands in the active set, and every refusal and reply. The reply's layout where chapter 12 gives none
(entry 11), and NO_TRANSACTION before BAD_VALUE for the staged set's zone 0 (entry 34), are the model's choices. -/
def Obligations.NodeRequests : Prop :=
  ∀ (s : State) (l : Link) (f : Frame) (b : List Byte),
    let n := ufld b 0 8
    let old := s.dev.zne.nodes.find? fun e => decide (e.node = n)
    let moves (c : Instr) (nodes : List NodeEntry) (w : Wtb) (items : List Item) : Prop :=
      ∃ t, exec c s = .next t ∧ t.dev.zne = { s.dev.zne with nodes := nodes } ∧ t.dev.wtb = w ∧
        t.dev.newest l = some ⟨f.ty, f.tag, .ok, items⟩ ∧
        t.dev.perm.reach = (if s.dev.zne.names n = true then reachMatrix t.dev.zne else s.dev.perm.reach) ∧
        (if s.dev.zne.names n = true then
          { t.dev with
            spc := s.dev.spc, zne := s.dev.zne, perm := s.dev.perm, edu := s.dev.edu, wtb := s.dev.wtb, atc := s.dev.atc,
            mli := s.dev.mli } = s.dev
        else { t.dev with zne := s.dev.zne, wtb := s.dev.wtb, atc := s.dev.atc, mli := s.dev.mli } = s.dev)
    (s.takes l 0x47#8 f b →
      let refuses (st : Status) : Prop := exec (.nodeAttach l) s = .next { s with dev := s.dev.replied l f st [] }
      match idOf 64 (ufld b 8 1) with
      | none => refuses .badValue
      | some p =>
        let attached (from_ : Option Nat) : Prop :=
          moves (.nodeAttach l) (insertNode ⟨n, p, s.dev.wtb.next⟩ s.dev.zne.nodes)
            { s.dev.wtb with next := nextStamp s.dev.wtb.next } [u8 p.val, u48 s.dev.wtb.next, opt8 from_]
        if n = 0 then refuses .badValue
        else if (s.dev.port p).state ≠ .active then refuses .wrongState
        else
          match old with
          | some e => if e.port = p then refuses .ok else attached (some e.port.val)
          | none => if s.dev.zne.nodes.length < 256 then attached none else refuses .tableFull) ∧
    (s.takes l 0x48#8 f b →
      let refuses (st : Status) : Prop := exec (.nodeDetach l) s = .next { s with dev := s.dev.replied l f st [] }
      if n = 0 then refuses .badValue
      else
        match old with
        | none => refuses .notFound
        | some e =>
          moves (.nodeDetach l) (s.dev.zne.nodes.filter fun x => decide (x.node ≠ n)) s.dev.wtb [u8 e.port.val]) ∧
    (s.takes l 0x49#8 f b →
      let v := ufld b 1 8
      let replies (st : Status) (items : List Item) : Prop :=
        exec (.nodeRead l) s = .next { s with dev := s.dev.replied l f st items }
      match ufld b 0 1 with
      | 0 =>
        if v = 0 then replies .badValue []
        else
          match s.dev.zne.nodes.find? fun e => decide (e.node = v) with
          | none => replies .notFound []
          | some e => replies .ok [u64 e.node, u8 e.port.val, u48 e.stamp]
      | 1 =>
        match idOf 64 v with
        | none => replies .badValue []
        | some p => replies .ok (s.dev.portNodes p)
      | 2 => replies .ok (s.dev.allNodes v)
      | _ => replies .badValue []) ∧
    (s.takes l 0x46#8 f b →
      let (sel, set, id, first) := (ufld b 0 1, ufld b 1 1, ufld b 2 2, ufld b 4 1)
      let replies (st : Status) (items : List Item) : Prop :=
        exec (.zoneRead l) s = .next { s with dev := s.dev.replied l f st items }
      if 1 < sel ∨ 1 < set then replies .badValue []
      else
        match s.dev.zne.readSet (decide (set = 1)) with
        | none => replies .noTransaction []
        | some (zs, mode) =>
          if sel = 0 then replies .ok (s.dev.zne.setItems (decide (set = 1)) (zs.map (·.1)) mode)
          else if id = 0 then replies .badValue []
          else
            match zs.find? fun y => decide (y.1.id = id) with
            | none => replies .notFound []
            | some (y, stamp) => replies .ok (zoneReadItems y stamp first))

/-! ## Enforcement distribution -/

/-- PERMISSION_UPDATE_SENT starts the response timer when the last frame has left (R145); RESPONSE_TIMER_EXPIRY takes a SENDING
slot out of step, with its event, its ports then without permissions (R143, R144, R149); RESEND_TIMER_EXPIRY sends the current
generation again (R150); ENFORCEMENT READ (R155). That updates leave in the order they were sent, with the response timer started
behind the last of them (entry 18), that a row whose timer is not running does nothing (entry 2), and the reply's layout where
chapter 12 gives none (entry 11) are the model's choices. -/
def Obligations.EnforcementTimers : Prop :=
  ∀ (s : State) (n : SlotNo) (l : Link) (f : Frame) (b : List Byte),
    (s.running →
      match (s.dev.slot n).tx with
      | [] => exec (.permissionUpdateSent n) s = .next { s with dev := s.dev.pump }
      | _ :: rest =>
        exec (.permissionUpdateSent n) s = .next { s with
          dev := Dev.pump
            (if (s.dev.step n).state = .sending ∧ rest = [] ∧ (s.dev.step n).response = none then
              (s.dev.modSlot n fun r => { r with tx := rest }).modStep n fun r =>
                { r with response := some (s.dev.now + 50) }
            else s.dev.modSlot n fun r => { r with tx := rest }) }) ∧
    (s.running →
      match (s.dev.step n).state, (s.dev.step n).response with
      | .sending, some w =>
        ∃ t, exec (.responseTimerExpiry n) s = .next t ∧ t.dev.now = max s.dev.now w ∧
          t.dev.step n = { s.dev.step n with
            state := .outOfStep, dirty := false, response := none, resend := some (t.dev.now + 1000) } ∧
          (t.dev.cls clsEnforcement).count =
            (if (s.dev.cls clsEnforcement).count < 255 then (s.dev.cls clsEnforcement).count + 1
            else (s.dev.cls clsEnforcement).count) ∧
          (∀ p, slotOf p = n → inMask t.dev.perm.eligible p = false ∧ t.dev.perm.rows[p.val] = 0) ∧
          { t.dev with
            now := s.dev.now, spc := s.dev.spc, perm := s.dev.perm, edu := s.dev.edu, atc := s.dev.atc,
            mli := s.dev.mli } = s.dev
      | _, _ => exec (.responseTimerExpiry n) s = .next { s with dev := s.dev.pump }) ∧
    (s.running →
      match (s.dev.step n).state, (s.dev.step n).resend with
      | .outOfStep, some w =>
        let d : Dev := { s.dev with now := max s.dev.now w }
        exec (.resendTimerExpiry n) s = .next { s with
          dev := Dev.pump
            ((d.modStep n fun r => { r with sent := some s.dev.perm.gen, resend := some (d.now + 1000) }).modSlot n fun r =>
              { r with tx := r.tx ++ [⟨s.dev.perm.gen, (portsOf n).map fun p => s.dev.perm.rows[p.val]⟩] }) }
      | _, _ => exec (.resendTimerExpiry n) s = .next { s with dev := s.dev.pump }) ∧
    (s.takes l 0x50#8 f b →
      match ufld b 0 1, idOf 8 (ufld b 1 1) with
      | 0, _ => exec (.enforcementRead l) s = .next { s with dev := s.dev.replied l f .ok s.dev.enforcementSummary }
      | 1, some m =>
        exec (.enforcementRead l) s = .next { s with dev := s.dev.replied l f .ok (s.dev.enforcementSlot m) }
      | _, _ => exec (.enforcementRead l) s = .next { s with dev := s.dev.replied l f .badValue [] })

/-! ## Watches -/

/-- WATCH READ, WATCH RELEASE and WATCH LIST (R158 to R161): the entry made with a fresh id and the record's stamp, the oldest of
eight giving way; the entries released, each once; the list; no other link's entry moves. Keys beyond an id's width are refused
(entry 26), an id named twice counts as passed over the second time and ALL lists the ids oldest first (entry 30), and the
reply's layout where chapter 12 gives none (entry 11): the model's choices. -/
def Obligations.WatchRequests : Prop :=
  ∀ (s : State) (l : Link) (f : Frame) (b : List Byte),
    s.dev.watchesWf →
    (s.takes l 0x58#8 f b →
      let key := ufld b 1 8
      match kindOf (ufld b 0 1) with
      | none => exec (.watchRead l) s = .next { s with dev := s.dev.replied l f .badValue [] }
      | some k =>
        if keyInRange k key = false then exec (.watchRead l) s = .next { s with dev := s.dev.replied l f .badValue [] }
        else
          match s.dev.recordStamp k key with
          | none => exec (.watchRead l) s = .next { s with dev := s.dev.replied l f .notFound [] }
          | some stamp =>
            let oldest := if (s.dev.watchesOf l).length < 8 then none else (s.dev.watchesOf l).head?
            let kept := s.dev.wtb.entries.filter fun w => decide (oldest.map (·.id) ≠ some w.id)
            ∃ t, exec (.watchRead l) s = .next t ∧
              ∃ id ∈ List.range 256, 1 ≤ id ∧ id ∉ kept.map (·.id) ∧
                (∀ x ∈ List.range 256, 1 ≤ x → x ∉ kept.map (·.id) →
                  (id + 255 - s.dev.wtb.idCounter) % 255 ≤ (x + 255 - s.dev.wtb.idCounter) % 255) ∧
                t.dev.wtb = { s.dev.wtb with
                  idCounter := if id = 255 then 1 else id + 1, entries := kept ++ [⟨id, l, k, key, stamp⟩] } ∧
                t.dev.newest l = some ⟨f.ty, f.tag, .ok,
                  [u8 id, u48 stamp] ++ watchIdItems (oldest.map (·.id)) ++ s.dev.recordItems k key⟩ ∧
                { t.dev with wtb := s.dev.wtb, atc := s.dev.atc, mli := s.dev.mli } = s.dev) ∧
    (s.takes l 0x59#8 f b →
      let owned := (s.dev.watchesOf l).map (·.id)
      let removes (gone passed : List Nat) : Prop :=
        exec (.watchRelease l) s = .next { s with
          dev := Dev.replied { s.dev with wtb := { s.dev.wtb with
            entries := s.dev.wtb.entries.filter fun w => !(decide (w.owner = l) && gone.contains w.id) } } l f .ok
              (u16 gone.length :: gone.map u8 ++ u16 passed.length :: passed.map u8 ++
                [u16 ((s.dev.watchesOf l).filter fun w => !gone.contains w.id).length]) }
      match ufld b 0 1 with
      | 0 => removes owned []
      | 1 =>
        let ids := ((b.drop 2).take (ufld b 1 1)).map (·.toNat)
        if ufld b 1 1 = 0 ∨ 8 < ufld b 1 1 ∨ 0 ∈ ids then
          exec (.watchRelease l) s = .next { s with dev := s.dev.replied l f .badValue [] }
        else
          let r := releaseList owned ids
          removes r.1 r.2 ∧ (ids.Nodup → r = (ids.filter fun x => owned.contains x, ids.filter fun x => !owned.contains x))
      | _ => exec (.watchRelease l) s = .next { s with dev := s.dev.replied l f .badValue [] }) ∧
    (s.takes l 0x5A#8 f b →
      exec (.watchList l) s = .next { s with
        dev := s.dev.replied l f .ok
          (u16 (s.dev.watchesOf l).length :: (s.dev.watchesOf l).flatMap s.dev.watchItems) })

/-! ## Management links -/

/-- A start byte begins a frame at an idle receiver (R77, R166), and a good frame on a link that takes input lowers the error
count and is queued, counted as an overrun behind two waiting, or dropped when it is no request (R166, R168). That a frame is
accepted with no start byte before it, and that nothing is received while the line is low, are the model's choices (entry 22). -/
def Obligations.FramesArrive : Prop :=
  ∀ (s : State) (l : Link) (n : SlotNo) (wire : List Byte) (g : Frame),
    s.running →
    (s.dev.takesInput l = true → arrival wire = .good g →
      exec (.linkFrameReceived l wire) s = .next { s with
        dev := Dev.pump (s.dev.modLink l fun r =>
          if g.notRequest = true then { r with errs := r.errs - 1, rx := .idle }
          else if r.queue.length < 2 then { r with errs := r.errs - 1, rx := .idle, queue := r.queue ++ [g] }
          else { r with errs := r.errs - 1, rx := .idle, overrun := if r.overrun < 255 then r.overrun + 1 else r.overrun }) }) ∧
    (s.dev.takesInput l = false → exec (.linkFrameReceived l wire) s = .next { s with dev := s.dev.pump }) ∧
    (exec (.frameStartByte (.mgmt l)) s = .next { s with
      dev := Dev.pump (if s.dev.takesInput l = true ∧ (s.dev.link l).rx = .idle then
        s.dev.modLink l fun r => { r with rx := .inFrame } else s.dev) }) ∧
    (exec (.frameStartByte (.slot n)) s = .next { s with
      dev := Dev.pump (if (s.dev.slot n).rx = .idle then s.dev.modSlot n fun r => { r with rx := .inFrame } else s.dev) })

/-- The four ways a bad frame ends on a management link that takes input (R166, R168): a mismatch or an over-length field, by its
row or in the bytes; a gap inside a frame; a line that rises too soon inside a frame. Each adds 8 to the count, with an event as
it passes 96; at 255 the link is DOWN with its event, and loses its queue, replies, watches and role, with the event of
mastership ended, where a registered standby succeeds, or of the lapse (R176), and a restart whose reply was due begins. The
bytes of a frame are taken as the model chooses (entry 22). -/
def Obligations.BadFrames : Prop :=
  ∀ (s : State) (l : Link) (wire : List Byte),
    s.running →
    let old := s.dev.link l
    let new := min 255 (old.errs + 8)
    let hit (lines : Lines) : Dev :=
      { s.dev with lines := lines }.modLink l fun r => { r with errs := new, rx := .idle }
    let strikes (c : Instr) (lines : Lines) : Prop :=
      if new < 255 then
        exec c s = .next { s with
          dev := Dev.pump (if old.errs < 96 ∧ 96 ≤ new then (hit lines).raise clsLink .link (linkCode l) 0x91 [new]
            else hit lines) }
      else if old.restartDue = true then
        ∃ t, exec c s = .next t ∧ t.dev.causes = { s.dev.causes with command := true } ∧
          t.dev.hold = some { restart := some (s.dev.now + 1) } ∧ t.dev.mli = {}
      else
        ∃ t, exec c s = .next t ∧ t.dev.lines = lines ∧
          t.dev.link l = { old with
            errs := 255, rx := .idle, queue := if old.inService then old.queue.take 1 else [], reply := none,
            notice := none, tx := none, standby := false
            deadline := if s.dev.msa.master = some l ∨ old.standby = true then none else old.deadline
            lastGood := if s.dev.msa.master = some l ∨ old.standby = true then none else old.lastGood } ∧
          t.dev.wtb = { s.dev.wtb with entries := s.dev.wtb.entries.filter fun w => decide (w.owner ≠ l) } ∧
          (let o := other l
          let succeeds := decide (s.dev.msa.master = some l) && (s.dev.link o).standby && !s.dev.down o
          let role (code : Nat) (details : List Int) : Prop := s.dev.counted t.dev clsMastership 1 ∧
            (t.dev.cls clsMastership).last = some ⟨.link, linkCode l, code, details, s.dev.atc.uptime⟩
          s.dev.counted t.dev clsLink 1 ∧
            (t.dev.cls clsLink).last = some ⟨.link, linkCode l, 0x92, [], s.dev.atc.uptime⟩ ∧
            (if s.dev.msa.master = some l then
              t.dev.zne = { s.dev.zne with staged := none, assembly := none } ∧
                t.dev.msa = { s.dev.msa with master := if succeeds then some o else none } ∧
                role 0xA2 [1, if succeeds then linkCode o else 0xFF]
            else
              t.dev.zne = s.dev.zne ∧ t.dev.msa = s.dev.msa ∧
                if old.standby = true then role 0xA3 []
                else s.dev.counted t.dev clsMastership 0 ∧
                  (t.dev.cls clsMastership).last = (s.dev.cls clsMastership).last) ∧
            LinkRec.wentOn
              (if succeeds then
                { s.dev.link o with standby := false, deadline := some (s.dev.now + s.dev.msa.hmax), lastGood := none }
              else s.dev.link o) (t.dev.link o) ∧
            (succeeds = true → ∀ c, 0 < (t.dev.cls c).count → t.dev.toBeTold o c)) ∧
          { t.dev with
            lines := s.dev.lines, zne := s.dev.zne, wtb := s.dev.wtb, atc := s.dev.atc, mli := s.dev.mli,
            msa := s.dev.msa } = s.dev
    (s.dev.takesInput l = true →
      strikes (.linkBadFrame l) s.dev.lines ∧ (arrival wire = .bad → strikes (.linkFrameReceived l wire) s.dev.lines) ∧
        (old.rx = .inFrame → strikes (.linkGapTimeout l) s.dev.lines)) ∧
      (s.dev.lineLow l = true → s.dev.down l = false → old.rx = .inFrame →
        strikes (.lineRisesBeforeBreak l) (s.dev.setLineLow l false).lines)

/-- The other events of a management line: it falls, rises with no frame begun, is low long enough for a break, which empties the
queue, zeroes the count and drops the link's watches (R165, R167), and rises from it; and the end of a transmission, after which
the reply that waits, else the notice that waits, goes on the line, the other link's transmitter goes on, and besides only
notices are formed (R173, R181), or a supervisor restart begins (R178). When notices are formed (entry 10) and the restart's
begin (entry 14) are the model's choices. -/
def Obligations.LineEvents : Prop :=
  ∀ (s : State) (l : Link),
    s.running →
    let old := s.dev.link l
    exec (.lineFallsLow l) s = .next { s with dev := (s.dev.setLineLow l true).pump } ∧
      (s.dev.lineLow l = true → old.rx = .idle →
        exec (.lineRisesBeforeBreak l) s = .next { s with dev := (s.dev.setLineLow l false).pump }) ∧
      (old.rx ≠ .brk →
        exec (.linkBreak l) s = .next { s with
          dev := Dev.pump ({ s.dev.setLineLow l true with
            wtb := { s.dev.wtb with entries := s.dev.wtb.entries.filter fun w => decide (w.owner ≠ l) } }.modLink l fun r =>
              { r with rx := .brk, errs := 0, queue := if r.inService then r.queue.take 1 else [] }) }) ∧
      (exec (.breakEnd l) s = .next { s with
        dev := Dev.pump ((s.dev.setLineLow l false).modLink l fun r =>
          { r with rx := if r.rx = .brk then .idle else r.rx }) }) ∧
      ∀ x ∈ old.tx,
        if (match x with | .reply r => r.isRestart | .notice _ => false) = true then
          ∃ t, exec (.linkTransmitEnd l) s = .next t ∧ t.dev.causes = { s.dev.causes with command := true } ∧
            t.dev.hold = some { restart := some (s.dev.now + 1) } ∧ t.dev.mli = {}
        else
          ∃ t, exec (.linkTransmitEnd l) s = .next t ∧
            (old.errs < 255 →
              match old.reply, old.notice with
              | some r, _ => (t.dev.link l).tx = some (.reply r) ∧ (t.dev.link l).reply = none
              | none, some m => (t.dev.link l).tx = some (.notice m)
              | none, none => match (t.dev.link l).tx with | some (.reply _) => False | _ => True) ∧
            { t.dev.link l with tx := old.tx, reply := old.reply, notice := old.notice } = old ∧
            Dev.noticesSent (s.dev.modLink l fun r => { r with tx := none }) t.dev ∧
            { t.dev with atc := s.dev.atc, mli := s.dev.mli } = s.dev

/-- IDENTIFY, LINK STATUS, RESET CAUSE READ, SUPERVISOR RESTART, MASTER CLAIM, STANDBY REGISTER, HEARTBEAT and HEARTBEAT WINDOW
SET: what each changes, refuses and returns (R174, R175, R177, R178); a new master is to be told of every class with events
(R182). The serial and the silicon revision are the part's own (entry 12); the reply's layout where chapter 12 gives none,
IDENTIFY's two-byte codes among it, is the model's (entry 11). -/
def Obligations.LinkRequests : Prop :=
  ∀ (s : State) (l : Link) (f : Frame) (b : List Byte),
    let replies (c : Instr) (d : Dev) (st : Status) (items : List Item) : Prop :=
      exec c s = .next { s with dev := d.replied l f st items }
    (s.takes l 0x01#8 f b →
      replies (.identify l) s.dev .ok
        [u16 0xD41A, u16 0x5C40, u16 Config.siliconRevision, u64 Config.chassisSerial, u32 s.dev.lcu.counter]) ∧
    (s.takes l 0x08#8 f b →
      if ufld b 0 1 = 0 then replies (.linkStatus l) s.dev .ok (s.dev.statusItems l)
      else if ufld b 0 1 = 1 then
        replies (.linkStatus l) (s.dev.modLink l fun r => { r with overrun := 0 }) .ok (s.dev.statusItems l)
      else replies (.linkStatus l) s.dev .badValue []) ∧
    (s.takes l 0x02#8 f b →
      if ufld b 0 1 = 0 then replies (.resetCauseRead l) s.dev .ok [u8 s.dev.causes.code]
      else if ufld b 0 1 = 1 then
        replies (.resetCauseRead l) { s.dev with causes := {} } .ok [u8 s.dev.causes.code]
      else replies (.resetCauseRead l) s.dev .badValue []) ∧
    (s.takes l 0x09#8 f b → replies (.supervisorRestart l) s.dev .ok []) ∧
    (s.takes l 0x03#8 f b →
      match s.dev.msa.master with
      | some m => if m = l then replies (.masterClaim l) s.dev .ok [] else replies (.masterClaim l) s.dev .held []
      | none =>
        ∃ t, exec (.masterClaim l) s = .next t ∧ t.dev.msa = { s.dev.msa with master := some l } ∧
          (t.dev.link l).standby = false ∧ (t.dev.link l).deadline = some (s.dev.now + s.dev.msa.hmax) ∧
          (t.dev.link l).lastGood = none ∧ t.dev.newest l = some ⟨f.ty, f.tag, .ok, []⟩ ∧
          t.dev.zne = { s.dev.zne with staged := none, assembly := none } ∧
          (t.dev.cls clsMastership).last = some ⟨.link, linkCode l, 0xA1, [], s.dev.atc.uptime⟩ ∧
          (∀ c, 0 < (t.dev.cls c).count → t.dev.toBeTold l c) ∧
          { t.dev with zne := s.dev.zne, atc := s.dev.atc, mli := s.dev.mli, msa := s.dev.msa } = s.dev) ∧
    (s.takes l 0x05#8 f b →
      if s.dev.msa.master = some l then replies (.standbyRegister l) s.dev .wrongState []
      else if (s.dev.link l).standby = true then replies (.standbyRegister l) s.dev .ok []
      else
        replies (.standbyRegister l) (s.dev.modLink l fun r =>
          { r with standby := true, deadline := some (s.dev.now + s.dev.msa.hmax), lastGood := none }) .ok []) ∧
    (s.takes l 0x06#8 f b →
      if s.dev.msa.master ≠ some l ∧ (s.dev.link l).standby = false then replies (.heartbeat l) s.dev .wrongState []
      else if ∃ w ∈ (s.dev.link l).lastGood, s.dev.now - w < s.dev.msa.hmin then replies (.heartbeat l) s.dev .early []
      else
        replies (.heartbeat l) (s.dev.modLink l fun r =>
          { r with lastGood := some s.dev.now, deadline := some (s.dev.now + s.dev.msa.hmax) }) .ok
            [u8 (if s.dev.msa.master = some l then 0 else 1), u32 s.dev.msa.hmax]) ∧
    (s.takes l 0x07#8 f b →
      let hi := clampN 100 60000 (ufld b 2 2)
      let lo := min (clampN 0 10000 (ufld b 0 2)) (hi - 1)
      replies (.heartbeatWindowSet l) { s.dev with msa := { s.dev.msa with hmin := lo, hmax := hi } }
        (if lo = ufld b 0 2 ∧ hi = ufld b 2 2 then .ok else .clamped) [u16 lo, u16 hi])

/-- How mastership ends (R176): by MASTER RELEASE or at the deadline; a registered standby that is not DOWN is master at once,
the transaction is discarded (R126), no watch moves (R165), and a successor is to be told of every class with events (R182).
STANDBY_LAPSE ends a registration. That MASTER_DEADLINE_EXPIRY with no master and STANDBY_LAPSE of an unregistered link do
nothing is the model's choice (entry 2). -/
def Obligations.MastershipEnds : Prop :=
  ∀ (s : State) (l : Link) (f : Frame) (b : List Byte),
    let ended (t : State) (now cause : Nat) : Prop :=
      let o := other l
      let succeeds := (s.dev.link o).standby && !s.dev.down o
      t.dev.msa = { s.dev.msa with master := if succeeds then some o else none } ∧
        t.dev.zne = { s.dev.zne with staged := none, assembly := none } ∧
        ((t.dev.link l).standby, (t.dev.link l).deadline, (t.dev.link l).lastGood) = (false, none, none) ∧
        (succeeds = true → ((t.dev.link o).standby, (t.dev.link o).deadline, (t.dev.link o).lastGood) =
          (false, some (now + s.dev.msa.hmax), none)) ∧
        (t.dev.cls clsMastership).last =
          some ⟨.link, linkCode l, 0xA2, [(cause : Int), if succeeds then linkCode o else 0xFF], s.dev.atc.uptime⟩ ∧
        (if succeeds then ∀ c, 0 < (t.dev.cls c).count → t.dev.toBeTold o c
        else ∀ c, c ≠ clsMastership → (t.dev.cls c).unnoticed = true → (s.dev.cls c).unnoticed = true) ∧
        t.dev.now = now ∧
        { t.dev with now := s.dev.now, zne := s.dev.zne, atc := s.dev.atc, mli := s.dev.mli, msa := s.dev.msa } = s.dev
    (s.takes l 0x04#8 f b →
      ∃ t, exec (.masterRelease l) s = .next t ∧ t.dev.newest l = some ⟨f.ty, f.tag, .ok, []⟩ ∧ ended t s.dev.now 2) ∧
    (s.running → s.dev.msa.master = some l →
      ∀ w ∈ (s.dev.link l).deadline, ∃ t, exec .masterDeadlineExpiry s = .next t ∧ ended t (max s.dev.now w) 0) ∧
    (s.running → s.dev.msa.master = none → exec .masterDeadlineExpiry s = .next { s with dev := s.dev.pump }) ∧
    (s.running →
      match (s.dev.link l).standby, (s.dev.link l).deadline with
      | true, some w =>
        exec (.standbyLapse l) s = .next { s with
          dev := Dev.pump (({ s.dev with now := max s.dev.now w }.modLink l fun r =>
            { r with standby := false, deadline := none, lastGood := none }).raise clsMastership .link (linkCode l) 0xA3 []) }
      | _, _ => exec (.standbyLapse l) s = .next { s with dev := s.dev.pump })

/-! ## Alerts -/

/-- R183: ALERT READ returns the class named, or every class in priority order, and the uptime, as they stand; the reply is OK,
and reading changes nothing. A class that does not exist is refused. The bytes of an absent last event are the model's (entry
11). -/
def Obligations.AlertRead : Prop :=
  ∀ (s : State) (l : Link) (f : Frame) (b : List Byte),
    s.takes l 0x60#8 f b →
    let record (c : Fin 11) : List Item :=
      u16 (s.dev.cls c).count :: eventItems (s.dev.cls c).last ++ [flag (s.dev.cls c).notify, flag (s.dev.cls c).unnoticed]
    if ufld b 0 1 = 0xFF then
      exec (.alertRead l) s = .next { s with
        dev := s.dev.replied l f .ok ((List.finRange 11).flatMap record ++ [u32 s.dev.atc.uptime]) }
    else
      match idOf 11 (ufld b 0 1) with
      | some c => exec (.alertRead l) s = .next { s with dev := s.dev.replied l f .ok (record c ++ [u32 s.dev.atc.uptime]) }
      | none => exec (.alertRead l) s = .next { s with dev := s.dev.replied l f .badValue [] }

/-- ALERT CLEAR and ALERT ENABLE change the classes named and return them as they leave them (R184); UPTIME_TICK counts (R180),
and as at the end of every event a notice is then formed: while a target link's notice place stays full nothing is chosen; with
every target's place empty the first class that may be chosen is put in each, or on its line when that is idle, as it stands, and
is no longer unnoticed (R181). The bytes of an absent last event are the model's (entry 11). -/
def Obligations.AlertCommands : Prop :=
  ∀ (s : State) (l : Link) (f : Frame) (b : List Byte),
    let named (c : Fin 11) : Bool := decide (ufld b 0 1 = 0xFF) || decide (ufld b 0 1 = c.val)
    let change (g : ClassRec → ClassRec) : Dev := { s.dev with atc := { s.dev.atc with
      classes := Vector.ofFn fun c : Fin 11 => if named c then g (s.dev.cls c) else s.dev.cls c } }
    let records (g : ClassRec → ClassRec) : List Item := ((List.finRange 11).filter named).flatMap fun c =>
      u16 (g (s.dev.cls c)).count :: eventItems (g (s.dev.cls c)).last ++
        [flag (g (s.dev.cls c)).notify, flag (g (s.dev.cls c)).unnoticed]
    (s.takes l 0x61#8 f b →
      if ufld b 0 1 = 0xFF ∨ ufld b 0 1 < 11 then
        exec (.alertClear l) s = .next { s with
          dev := (change fun r => { r with count := 0, unnoticed := false }).replied l f .ok
            (records fun r => { r with count := 0, unnoticed := false }) }
      else exec (.alertClear l) s = .next { s with dev := s.dev.replied l f .badValue [] }) ∧
    (s.takes l 0x62#8 f b →
      match yesNoOf (ufld b 1 1) with
      | some v =>
        if ufld b 0 1 = 0xFF ∨ ufld b 0 1 < 11 then
          exec (.alertEnable l) s = .next { s with
            dev := (change fun r => { r with notify := v }).replied l f .ok (records fun r => { r with notify := v }) }
        else exec (.alertEnable l) s = .next { s with dev := s.dev.replied l f .badValue [] }
      | none => exec (.alertEnable l) s = .next { s with dev := s.dev.replied l f .badValue [] }) ∧
    (s.running →
      exec .uptimeTick s = .next { s with
        dev := Dev.pump { s.dev with
          now := max s.dev.now s.dev.atc.uptimeDue
          atc := { s.dev.atc with
            uptime := if s.dev.atc.uptime < 4294967295 then s.dev.atc.uptime + 1 else s.dev.atc.uptime
            uptimeDue := max s.dev.now s.dev.atc.uptimeDue + 1000 } } }) ∧
    (s.running → s.dev.noticeTarget l → (s.dev.link l).notice ≠ none →
      (s.dev.down l = true ∨ (s.dev.link l).tx ≠ none ∨ (s.dev.link l).reply ≠ none) →
      ∃ t, exec .uptimeTick s = .next t ∧ t.dev.atc.classes = s.dev.atc.classes ∧
        (t.dev.link l).notice = (s.dev.link l).notice) ∧
    (s.running → s.dev.noticeTarget l → (∀ x, s.dev.noticeTarget x → (s.dev.link x).notice = none) →
      ∀ c : Fin 11, s.dev.noticeCandidate c → (∀ y, y < c → ¬ s.dev.noticeCandidate y) →
        ∃ t, exec .uptimeTick s = .next t ∧
          (∀ x, s.dev.noticeTarget x →
            let n : Notice := ⟨c, (s.dev.cls c).count, (s.dev.cls c).last⟩
            if s.dev.down x = false ∧ (s.dev.link x).tx = none ∧ (s.dev.link x).reply = none then
              (t.dev.link x).tx = some (.notice n)
            else (t.dev.link x).notice = some n) ∧
          t.dev.cls c = { s.dev.cls c with unnoticed := false } ∧ ∀ y, y < c → t.dev.cls y = s.dev.cls y)

/-! ## Frames -/

/-- The bytes of a frame whose body has at most 496 bytes arrive as that frame, and with any byte of the CRC changed as a bad
one; bytes whose length field says more than 496 are a bad frame as soon as it stands (section 12.1, R166, R186). -/
def Obligations.FrameArrives : Prop :=
  ∀ (f : Frame) (x y : Byte) (rest : List Byte),
    (f.body.length ≤ 496 →
      arrival f.wire = .good f ∧
        ([x, y] ≠ beBytes 2 (crc16 f.covered).toNat → arrival (f.covered ++ [x, y]) = .bad)) ∧
      (496 < beNat [x, y] → arrival (f.ty :: f.tag :: f.flags :: x :: y :: rest) = .bad)

/-! ## Invariants that every step keeps -/

/-- Every step ends its event: no work is left undone (entry 8), and no notice is owed (R181): a target link's notice place is
full, or no class that may be chosen is unnoticed, or there is no target link (entry 10). The first is the premise of the
statements about a part that runs. -/
def Obligations.WorkDone : Prop :=
  ∀ s t : State, step s = .next t →
    (s.dev.work = {} → t.dev.work = {}) ∧ (s.dev.noticesWf → t.dev.noticesWf)

/-- R41, R58, R60: every step keeps the power-on queue, the one ramp, the enable lines and the held bases in agreement. -/
def Obligations.SlotsKept : Prop :=
  ∀ s t : State, s.dev.slotsWf → step s = .next t → t.dev.slotsWf

/-- R49, R80, R115: every step keeps the ports, the restore queue and the borrower list in agreement, and every ACTIVE or SHED
port on a POWERED slot. -/
def Obligations.PortsKept : Prop :=
  ∀ s t : State, s.dev.portsWf → s.dev.slotsWf → s.dev.carriedWf → step s = .next t → t.dev.portsWf ∧ t.dev.carriedWf

/-- R41, R48: while the part runs, every step keeps the power account exact and overcommit true to it, and allocated exceeds
available only when nothing is left to shed. -/
def Obligations.BudgetKept : Prop :=
  ∀ s t : State,
    s.dev.portsWf → s.dev.slotsWf → (s.dev.hold = none → s.dev.budgetWf) → step s = .next t → t.dev.hold = none →
      t.dev.budgetWf

/-- R138, R143, R144, R147: every step keeps the reach matrix symmetric and irreflexive and the rows formed from it, so that no
row lets a port reach one that does not reach it back, or one that is not eligible; the eligible set is that of the ACTIVE ports
whose slot is in the exchange and not passive; the generation goes up by 1, past 0 at its end, exactly when some row changed; and
a slot that stays SENDING is then dirty, or was sent the new generation. -/
def Obligations.PermissionsKept : Prop :=
  ∀ s t : State, step s = .next t →
    (s.dev.perm.wf →
      t.dev.perm.wf ∧ rowsWf t.dev.perm.rows ∧
        ∀ p q : PortNo, inMask t.dev.perm.rows[p.val] q = true →
          inMask t.dev.perm.eligible p = true ∧ inMask t.dev.perm.eligible q = true) ∧
    (s.dev.work = {} → s.dev.eligibleWf → t.dev.eligibleWf) ∧
    (s.dev.work = {} → s.dev.hold = none → t.dev.hold = none →
      t.dev.perm.gen = (if t.dev.perm.rows = s.dev.perm.rows then s.dev.perm.gen
        else if s.dev.perm.gen = 4294967295 then 1 else s.dev.perm.gen + 1) ∧
      ∀ n, (s.dev.step n).state = .sending → (t.dev.step n).state = .sending →
        t.dev.perm.rows ≠ s.dev.perm.rows → (t.dev.step n).dirty = true ∨ (t.dev.step n).sent = some t.dev.perm.gen)

/-- R113, R116, R118: every step keeps the seat figures exact, a tier short only while its grace runs, and borrowers only while
BASE has no free seat. -/
def Obligations.SeatsKept : Prop :=
  ∀ s t : State, s.dev.portsWf → s.dev.work = {} → s.dev.seatsWf → step s = .next t → t.dev.seatsWf

/-- R124, R134: every step keeps the limits of both zone sets, and every attachment at an ACTIVE port. -/
def Obligations.ZonesKept : Prop :=
  ∀ s t : State, s.dev.zonesWf → step s = .next t → t.dev.zonesWf

/-- R153, section 8.2: every step keeps a step record UNPOWERED exactly off POWERED, and an IN_STEP slot at the current
generation. -/
def Obligations.StepsKept : Prop :=
  ∀ s t : State, s.dev.slotsWf → s.dev.work = {} → s.dev.stepsWf → step s = .next t → t.dev.stepsWf

/-- R158, R168, R174: every step keeps the master off DOWN and off the standby list, and each link's watches few, each under an
id of its own, and none while DOWN. -/
def Obligations.LinksKept : Prop :=
  ∀ s t : State, s.dev.mastershipWf → s.dev.watchesWf → step s = .next t → t.dev.mastershipWf ∧ t.dev.watchesWf

/-- R27: every step keeps each group's duty at least its latest demand, at least 20 and at most 100, and the settings it follows
from in range. -/
def Obligations.CoolingKept : Prop :=
  ∀ s t : State, s.dev.coolingWf → step s = .next t → t.dev.coolingWf

/-- Right after reset every invariant holds and no event's work is left. -/
def Obligations.InvariantsAtReset : Prop :=
  State.reset.dev.sound ∧ State.reset.dev.eligibleWf ∧ State.reset.dev.noticesWf ∧ State.reset.running ∧ State.reset.pending = []

/-- Nothing but ZONE COMMIT, and a reset, changes the active zone set, its generation or its stamps (sections 7.1 and 7.2). -/
def Obligations.ActiveSetOnlyByCommit : Prop :=
  ∀ (c : Instr) (s t : State),
    (∀ l, c ≠ .zoneCommit l) →
    c.isReset = false →
    exec c s = .next t →
    t.dev.hold = none →
    (t.dev.zne.zones, t.dev.zne.mode, t.dev.zne.gen, t.dev.zne.stamp) =
      (s.dev.zne.zones, s.dev.zne.mode, s.dev.zne.gen, s.dev.zne.stamp)
end

