-- ==== Sys2Proof/Laws/State.lean ====
section
/-! SUPPORT. What each update of one record leaves alone, one lemma per field of the part, and the records read back after the
update of their own table. -/

namespace Sys2Proof.Machine

/-! ## The records of the blocks -/

@[simp] theorem Dev.modPort_now (p : PortNo) (f : PortRec → PortRec) (d : Dev) : (d.modPort p f).now = d.now := rfl
@[simp] theorem Dev.modPort_lines (p : PortNo) (f : PortRec → PortRec) (d : Dev) : (d.modPort p f).lines = d.lines := rfl
@[simp] theorem Dev.modPort_ssu (p : PortNo) (f : PortRec → PortRec) (d : Dev) : (d.modPort p f).ssu = d.ssu := rfl
@[simp] theorem Dev.modPort_clc (p : PortNo) (f : PortRec → PortRec) (d : Dev) : (d.modPort p f).clc = d.clc := rfl
@[simp] theorem Dev.modPort_pbu (p : PortNo) (f : PortRec → PortRec) (d : Dev) : (d.modPort p f).pbu = d.pbu := rfl
@[simp] theorem Dev.modPort_spc (p : PortNo) (f : PortRec → PortRec) (d : Dev) : (d.modPort p f).spc = d.spc := rfl
@[simp] theorem Dev.modPort_lcu (p : PortNo) (f : PortRec → PortRec) (d : Dev) : (d.modPort p f).lcu = d.lcu := rfl
@[simp] theorem Dev.modPort_store (p : PortNo) (f : PortRec → PortRec) (d : Dev) : (d.modPort p f).store = d.store := rfl
@[simp] theorem Dev.modPort_zne (p : PortNo) (f : PortRec → PortRec) (d : Dev) : (d.modPort p f).zne = d.zne := rfl
@[simp] theorem Dev.modPort_perm (p : PortNo) (f : PortRec → PortRec) (d : Dev) : (d.modPort p f).perm = d.perm := rfl
@[simp] theorem Dev.modPort_edu (p : PortNo) (f : PortRec → PortRec) (d : Dev) : (d.modPort p f).edu = d.edu := rfl
@[simp] theorem Dev.modPort_wtb (p : PortNo) (f : PortRec → PortRec) (d : Dev) : (d.modPort p f).wtb = d.wtb := rfl
@[simp] theorem Dev.modPort_atc (p : PortNo) (f : PortRec → PortRec) (d : Dev) : (d.modPort p f).atc = d.atc := rfl
@[simp] theorem Dev.modPort_mli (p : PortNo) (f : PortRec → PortRec) (d : Dev) : (d.modPort p f).mli = d.mli := rfl
@[simp] theorem Dev.modPort_msa (p : PortNo) (f : PortRec → PortRec) (d : Dev) : (d.modPort p f).msa = d.msa := rfl
@[simp] theorem Dev.modPort_causes (p : PortNo) (f : PortRec → PortRec) (d : Dev) : (d.modPort p f).causes = d.causes := rfl
@[simp] theorem Dev.modPort_hold (p : PortNo) (f : PortRec → PortRec) (d : Dev) : (d.modPort p f).hold = d.hold := rfl
@[simp] theorem Dev.modPort_work (p : PortNo) (f : PortRec → PortRec) (d : Dev) : (d.modPort p f).work = d.work := rfl

@[simp] theorem Dev.modSlot_now (n : SlotNo) (f : SlotRec → SlotRec) (d : Dev) : (d.modSlot n f).now = d.now := rfl
@[simp] theorem Dev.modSlot_lines (n : SlotNo) (f : SlotRec → SlotRec) (d : Dev) : (d.modSlot n f).lines = d.lines := rfl
@[simp] theorem Dev.modSlot_ssu (n : SlotNo) (f : SlotRec → SlotRec) (d : Dev) : (d.modSlot n f).ssu = d.ssu := rfl
@[simp] theorem Dev.modSlot_clc (n : SlotNo) (f : SlotRec → SlotRec) (d : Dev) : (d.modSlot n f).clc = d.clc := rfl
@[simp] theorem Dev.modSlot_pbu (n : SlotNo) (f : SlotRec → SlotRec) (d : Dev) : (d.modSlot n f).pbu = d.pbu := rfl
@[simp] theorem Dev.modSlot_ptc (n : SlotNo) (f : SlotRec → SlotRec) (d : Dev) : (d.modSlot n f).ptc = d.ptc := rfl
@[simp] theorem Dev.modSlot_lcu (n : SlotNo) (f : SlotRec → SlotRec) (d : Dev) : (d.modSlot n f).lcu = d.lcu := rfl
@[simp] theorem Dev.modSlot_store (n : SlotNo) (f : SlotRec → SlotRec) (d : Dev) : (d.modSlot n f).store = d.store := rfl
@[simp] theorem Dev.modSlot_zne (n : SlotNo) (f : SlotRec → SlotRec) (d : Dev) : (d.modSlot n f).zne = d.zne := rfl
@[simp] theorem Dev.modSlot_perm (n : SlotNo) (f : SlotRec → SlotRec) (d : Dev) : (d.modSlot n f).perm = d.perm := rfl
@[simp] theorem Dev.modSlot_edu (n : SlotNo) (f : SlotRec → SlotRec) (d : Dev) : (d.modSlot n f).edu = d.edu := rfl
@[simp] theorem Dev.modSlot_wtb (n : SlotNo) (f : SlotRec → SlotRec) (d : Dev) : (d.modSlot n f).wtb = d.wtb := rfl
@[simp] theorem Dev.modSlot_atc (n : SlotNo) (f : SlotRec → SlotRec) (d : Dev) : (d.modSlot n f).atc = d.atc := rfl
@[simp] theorem Dev.modSlot_mli (n : SlotNo) (f : SlotRec → SlotRec) (d : Dev) : (d.modSlot n f).mli = d.mli := rfl
@[simp] theorem Dev.modSlot_msa (n : SlotNo) (f : SlotRec → SlotRec) (d : Dev) : (d.modSlot n f).msa = d.msa := rfl
@[simp] theorem Dev.modSlot_causes (n : SlotNo) (f : SlotRec → SlotRec) (d : Dev) : (d.modSlot n f).causes = d.causes := rfl
@[simp] theorem Dev.modSlot_hold (n : SlotNo) (f : SlotRec → SlotRec) (d : Dev) : (d.modSlot n f).hold = d.hold := rfl
@[simp] theorem Dev.modSlot_work (n : SlotNo) (f : SlotRec → SlotRec) (d : Dev) : (d.modSlot n f).work = d.work := rfl

@[simp] theorem Dev.modSupply_now (b : BayNo) (f : SupplyRec → SupplyRec) (d : Dev) : (d.modSupply b f).now = d.now := rfl
@[simp] theorem Dev.modSupply_lines (b : BayNo) (f : SupplyRec → SupplyRec) (d : Dev) : (d.modSupply b f).lines = d.lines := rfl
@[simp] theorem Dev.modSupply_ssu (b : BayNo) (f : SupplyRec → SupplyRec) (d : Dev) : (d.modSupply b f).ssu = d.ssu := rfl
@[simp] theorem Dev.modSupply_clc (b : BayNo) (f : SupplyRec → SupplyRec) (d : Dev) : (d.modSupply b f).clc = d.clc := rfl
@[simp] theorem Dev.modSupply_spc (b : BayNo) (f : SupplyRec → SupplyRec) (d : Dev) : (d.modSupply b f).spc = d.spc := rfl
@[simp] theorem Dev.modSupply_ptc (b : BayNo) (f : SupplyRec → SupplyRec) (d : Dev) : (d.modSupply b f).ptc = d.ptc := rfl
@[simp] theorem Dev.modSupply_lcu (b : BayNo) (f : SupplyRec → SupplyRec) (d : Dev) : (d.modSupply b f).lcu = d.lcu := rfl
@[simp] theorem Dev.modSupply_store (b : BayNo) (f : SupplyRec → SupplyRec) (d : Dev) : (d.modSupply b f).store = d.store := rfl
@[simp] theorem Dev.modSupply_zne (b : BayNo) (f : SupplyRec → SupplyRec) (d : Dev) : (d.modSupply b f).zne = d.zne := rfl
@[simp] theorem Dev.modSupply_perm (b : BayNo) (f : SupplyRec → SupplyRec) (d : Dev) : (d.modSupply b f).perm = d.perm := rfl
@[simp] theorem Dev.modSupply_edu (b : BayNo) (f : SupplyRec → SupplyRec) (d : Dev) : (d.modSupply b f).edu = d.edu := rfl
@[simp] theorem Dev.modSupply_wtb (b : BayNo) (f : SupplyRec → SupplyRec) (d : Dev) : (d.modSupply b f).wtb = d.wtb := rfl
@[simp] theorem Dev.modSupply_atc (b : BayNo) (f : SupplyRec → SupplyRec) (d : Dev) : (d.modSupply b f).atc = d.atc := rfl
@[simp] theorem Dev.modSupply_mli (b : BayNo) (f : SupplyRec → SupplyRec) (d : Dev) : (d.modSupply b f).mli = d.mli := rfl
@[simp] theorem Dev.modSupply_msa (b : BayNo) (f : SupplyRec → SupplyRec) (d : Dev) : (d.modSupply b f).msa = d.msa := rfl
@[simp] theorem Dev.modSupply_causes (b : BayNo) (f : SupplyRec → SupplyRec) (d : Dev) : (d.modSupply b f).causes = d.causes := rfl
@[simp] theorem Dev.modSupply_hold (b : BayNo) (f : SupplyRec → SupplyRec) (d : Dev) : (d.modSupply b f).hold = d.hold := rfl
@[simp] theorem Dev.modSupply_work (b : BayNo) (f : SupplyRec → SupplyRec) (d : Dev) : (d.modSupply b f).work = d.work := rfl

@[simp] theorem Dev.setHeld_now (n : SlotNo) (h : Option Nat) (d : Dev) : (d.setHeld n h).now = d.now := rfl
@[simp] theorem Dev.setHeld_lines (n : SlotNo) (h : Option Nat) (d : Dev) : (d.setHeld n h).lines = d.lines := rfl
@[simp] theorem Dev.setHeld_ssu (n : SlotNo) (h : Option Nat) (d : Dev) : (d.setHeld n h).ssu = d.ssu := rfl
@[simp] theorem Dev.setHeld_clc (n : SlotNo) (h : Option Nat) (d : Dev) : (d.setHeld n h).clc = d.clc := rfl
@[simp] theorem Dev.setHeld_spc (n : SlotNo) (h : Option Nat) (d : Dev) : (d.setHeld n h).spc = d.spc := rfl
@[simp] theorem Dev.setHeld_ptc (n : SlotNo) (h : Option Nat) (d : Dev) : (d.setHeld n h).ptc = d.ptc := rfl
@[simp] theorem Dev.setHeld_lcu (n : SlotNo) (h : Option Nat) (d : Dev) : (d.setHeld n h).lcu = d.lcu := rfl
@[simp] theorem Dev.setHeld_store (n : SlotNo) (h : Option Nat) (d : Dev) : (d.setHeld n h).store = d.store := rfl
@[simp] theorem Dev.setHeld_zne (n : SlotNo) (h : Option Nat) (d : Dev) : (d.setHeld n h).zne = d.zne := rfl
@[simp] theorem Dev.setHeld_perm (n : SlotNo) (h : Option Nat) (d : Dev) : (d.setHeld n h).perm = d.perm := rfl
@[simp] theorem Dev.setHeld_edu (n : SlotNo) (h : Option Nat) (d : Dev) : (d.setHeld n h).edu = d.edu := rfl
@[simp] theorem Dev.setHeld_wtb (n : SlotNo) (h : Option Nat) (d : Dev) : (d.setHeld n h).wtb = d.wtb := rfl
@[simp] theorem Dev.setHeld_atc (n : SlotNo) (h : Option Nat) (d : Dev) : (d.setHeld n h).atc = d.atc := rfl
@[simp] theorem Dev.setHeld_mli (n : SlotNo) (h : Option Nat) (d : Dev) : (d.setHeld n h).mli = d.mli := rfl
@[simp] theorem Dev.setHeld_msa (n : SlotNo) (h : Option Nat) (d : Dev) : (d.setHeld n h).msa = d.msa := rfl
@[simp] theorem Dev.setHeld_causes (n : SlotNo) (h : Option Nat) (d : Dev) : (d.setHeld n h).causes = d.causes := rfl
@[simp] theorem Dev.setHeld_hold (n : SlotNo) (h : Option Nat) (d : Dev) : (d.setHeld n h).hold = d.hold := rfl
@[simp] theorem Dev.setHeld_work (n : SlotNo) (h : Option Nat) (d : Dev) : (d.setHeld n h).work = d.work := rfl

@[simp] theorem Dev.book_now (n : Nat) (d : Dev) : (d.book n).now = d.now := rfl
@[simp] theorem Dev.book_lines (n : Nat) (d : Dev) : (d.book n).lines = d.lines := rfl
@[simp] theorem Dev.book_ssu (n : Nat) (d : Dev) : (d.book n).ssu = d.ssu := rfl
@[simp] theorem Dev.book_clc (n : Nat) (d : Dev) : (d.book n).clc = d.clc := rfl
@[simp] theorem Dev.book_spc (n : Nat) (d : Dev) : (d.book n).spc = d.spc := rfl
@[simp] theorem Dev.book_ptc (n : Nat) (d : Dev) : (d.book n).ptc = d.ptc := rfl
@[simp] theorem Dev.book_lcu (n : Nat) (d : Dev) : (d.book n).lcu = d.lcu := rfl
@[simp] theorem Dev.book_store (n : Nat) (d : Dev) : (d.book n).store = d.store := rfl
@[simp] theorem Dev.book_zne (n : Nat) (d : Dev) : (d.book n).zne = d.zne := rfl
@[simp] theorem Dev.book_perm (n : Nat) (d : Dev) : (d.book n).perm = d.perm := rfl
@[simp] theorem Dev.book_edu (n : Nat) (d : Dev) : (d.book n).edu = d.edu := rfl
@[simp] theorem Dev.book_wtb (n : Nat) (d : Dev) : (d.book n).wtb = d.wtb := rfl
@[simp] theorem Dev.book_atc (n : Nat) (d : Dev) : (d.book n).atc = d.atc := rfl
@[simp] theorem Dev.book_mli (n : Nat) (d : Dev) : (d.book n).mli = d.mli := rfl
@[simp] theorem Dev.book_msa (n : Nat) (d : Dev) : (d.book n).msa = d.msa := rfl
@[simp] theorem Dev.book_causes (n : Nat) (d : Dev) : (d.book n).causes = d.causes := rfl
@[simp] theorem Dev.book_hold (n : Nat) (d : Dev) : (d.book n).hold = d.hold := rfl
@[simp] theorem Dev.book_work (n : Nat) (d : Dev) : (d.book n).work = d.work := rfl

@[simp] theorem Dev.commit_now (w : Nat) (d : Dev) : (d.commit w).now = d.now := rfl
@[simp] theorem Dev.commit_lines (w : Nat) (d : Dev) : (d.commit w).lines = d.lines := rfl
@[simp] theorem Dev.commit_ssu (w : Nat) (d : Dev) : (d.commit w).ssu = d.ssu := rfl
@[simp] theorem Dev.commit_clc (w : Nat) (d : Dev) : (d.commit w).clc = d.clc := rfl
@[simp] theorem Dev.commit_spc (w : Nat) (d : Dev) : (d.commit w).spc = d.spc := rfl
@[simp] theorem Dev.commit_ptc (w : Nat) (d : Dev) : (d.commit w).ptc = d.ptc := rfl
@[simp] theorem Dev.commit_lcu (w : Nat) (d : Dev) : (d.commit w).lcu = d.lcu := rfl
@[simp] theorem Dev.commit_store (w : Nat) (d : Dev) : (d.commit w).store = d.store := rfl
@[simp] theorem Dev.commit_zne (w : Nat) (d : Dev) : (d.commit w).zne = d.zne := rfl
@[simp] theorem Dev.commit_perm (w : Nat) (d : Dev) : (d.commit w).perm = d.perm := rfl
@[simp] theorem Dev.commit_edu (w : Nat) (d : Dev) : (d.commit w).edu = d.edu := rfl
@[simp] theorem Dev.commit_wtb (w : Nat) (d : Dev) : (d.commit w).wtb = d.wtb := rfl
@[simp] theorem Dev.commit_atc (w : Nat) (d : Dev) : (d.commit w).atc = d.atc := rfl
@[simp] theorem Dev.commit_mli (w : Nat) (d : Dev) : (d.commit w).mli = d.mli := rfl
@[simp] theorem Dev.commit_msa (w : Nat) (d : Dev) : (d.commit w).msa = d.msa := rfl
@[simp] theorem Dev.commit_causes (w : Nat) (d : Dev) : (d.commit w).causes = d.causes := rfl
@[simp] theorem Dev.commit_hold (w : Nat) (d : Dev) : (d.commit w).hold = d.hold := rfl
@[simp] theorem Dev.commit_work (w : Nat) (d : Dev) : (d.commit w).work = d.work := rfl

@[simp] theorem Dev.modStep_now (n : SlotNo) (f : StepRec → StepRec) (d : Dev) : (d.modStep n f).now = d.now := rfl
@[simp] theorem Dev.modStep_lines (n : SlotNo) (f : StepRec → StepRec) (d : Dev) : (d.modStep n f).lines = d.lines := rfl
@[simp] theorem Dev.modStep_ssu (n : SlotNo) (f : StepRec → StepRec) (d : Dev) : (d.modStep n f).ssu = d.ssu := rfl
@[simp] theorem Dev.modStep_clc (n : SlotNo) (f : StepRec → StepRec) (d : Dev) : (d.modStep n f).clc = d.clc := rfl
@[simp] theorem Dev.modStep_pbu (n : SlotNo) (f : StepRec → StepRec) (d : Dev) : (d.modStep n f).pbu = d.pbu := rfl
@[simp] theorem Dev.modStep_spc (n : SlotNo) (f : StepRec → StepRec) (d : Dev) : (d.modStep n f).spc = d.spc := rfl
@[simp] theorem Dev.modStep_ptc (n : SlotNo) (f : StepRec → StepRec) (d : Dev) : (d.modStep n f).ptc = d.ptc := rfl
@[simp] theorem Dev.modStep_lcu (n : SlotNo) (f : StepRec → StepRec) (d : Dev) : (d.modStep n f).lcu = d.lcu := rfl
@[simp] theorem Dev.modStep_store (n : SlotNo) (f : StepRec → StepRec) (d : Dev) : (d.modStep n f).store = d.store := rfl
@[simp] theorem Dev.modStep_zne (n : SlotNo) (f : StepRec → StepRec) (d : Dev) : (d.modStep n f).zne = d.zne := rfl
@[simp] theorem Dev.modStep_perm (n : SlotNo) (f : StepRec → StepRec) (d : Dev) : (d.modStep n f).perm = d.perm := rfl
@[simp] theorem Dev.modStep_wtb (n : SlotNo) (f : StepRec → StepRec) (d : Dev) : (d.modStep n f).wtb = d.wtb := rfl
@[simp] theorem Dev.modStep_atc (n : SlotNo) (f : StepRec → StepRec) (d : Dev) : (d.modStep n f).atc = d.atc := rfl
@[simp] theorem Dev.modStep_mli (n : SlotNo) (f : StepRec → StepRec) (d : Dev) : (d.modStep n f).mli = d.mli := rfl
@[simp] theorem Dev.modStep_msa (n : SlotNo) (f : StepRec → StepRec) (d : Dev) : (d.modStep n f).msa = d.msa := rfl
@[simp] theorem Dev.modStep_causes (n : SlotNo) (f : StepRec → StepRec) (d : Dev) : (d.modStep n f).causes = d.causes := rfl
@[simp] theorem Dev.modStep_hold (n : SlotNo) (f : StepRec → StepRec) (d : Dev) : (d.modStep n f).hold = d.hold := rfl
@[simp] theorem Dev.modStep_work (n : SlotNo) (f : StepRec → StepRec) (d : Dev) : (d.modStep n f).work = d.work := rfl

@[simp] theorem Dev.modClass_now (c : Fin 11) (f : ClassRec → ClassRec) (d : Dev) : (d.modClass c f).now = d.now := rfl
@[simp] theorem Dev.modClass_lines (c : Fin 11) (f : ClassRec → ClassRec) (d : Dev) : (d.modClass c f).lines = d.lines := rfl
@[simp] theorem Dev.modClass_ssu (c : Fin 11) (f : ClassRec → ClassRec) (d : Dev) : (d.modClass c f).ssu = d.ssu := rfl
@[simp] theorem Dev.modClass_clc (c : Fin 11) (f : ClassRec → ClassRec) (d : Dev) : (d.modClass c f).clc = d.clc := rfl
@[simp] theorem Dev.modClass_pbu (c : Fin 11) (f : ClassRec → ClassRec) (d : Dev) : (d.modClass c f).pbu = d.pbu := rfl
@[simp] theorem Dev.modClass_spc (c : Fin 11) (f : ClassRec → ClassRec) (d : Dev) : (d.modClass c f).spc = d.spc := rfl
@[simp] theorem Dev.modClass_ptc (c : Fin 11) (f : ClassRec → ClassRec) (d : Dev) : (d.modClass c f).ptc = d.ptc := rfl
@[simp] theorem Dev.modClass_lcu (c : Fin 11) (f : ClassRec → ClassRec) (d : Dev) : (d.modClass c f).lcu = d.lcu := rfl
@[simp] theorem Dev.modClass_store (c : Fin 11) (f : ClassRec → ClassRec) (d : Dev) : (d.modClass c f).store = d.store := rfl
@[simp] theorem Dev.modClass_zne (c : Fin 11) (f : ClassRec → ClassRec) (d : Dev) : (d.modClass c f).zne = d.zne := rfl
@[simp] theorem Dev.modClass_perm (c : Fin 11) (f : ClassRec → ClassRec) (d : Dev) : (d.modClass c f).perm = d.perm := rfl
@[simp] theorem Dev.modClass_edu (c : Fin 11) (f : ClassRec → ClassRec) (d : Dev) : (d.modClass c f).edu = d.edu := rfl
@[simp] theorem Dev.modClass_wtb (c : Fin 11) (f : ClassRec → ClassRec) (d : Dev) : (d.modClass c f).wtb = d.wtb := rfl
@[simp] theorem Dev.modClass_mli (c : Fin 11) (f : ClassRec → ClassRec) (d : Dev) : (d.modClass c f).mli = d.mli := rfl
@[simp] theorem Dev.modClass_msa (c : Fin 11) (f : ClassRec → ClassRec) (d : Dev) : (d.modClass c f).msa = d.msa := rfl
@[simp] theorem Dev.modClass_causes (c : Fin 11) (f : ClassRec → ClassRec) (d : Dev) : (d.modClass c f).causes = d.causes := rfl
@[simp] theorem Dev.modClass_hold (c : Fin 11) (f : ClassRec → ClassRec) (d : Dev) : (d.modClass c f).hold = d.hold := rfl
@[simp] theorem Dev.modClass_work (c : Fin 11) (f : ClassRec → ClassRec) (d : Dev) : (d.modClass c f).work = d.work := rfl

@[simp] theorem Dev.raise_now (c : Fin 11) (k : SubjectKind) (i code : Nat) (o : List Int) (d : Dev) : (d.raise c k i code o).now = d.now := rfl
@[simp] theorem Dev.raise_lines (c : Fin 11) (k : SubjectKind) (i code : Nat) (o : List Int) (d : Dev) : (d.raise c k i code o).lines = d.lines := rfl
@[simp] theorem Dev.raise_ssu (c : Fin 11) (k : SubjectKind) (i code : Nat) (o : List Int) (d : Dev) : (d.raise c k i code o).ssu = d.ssu := rfl
@[simp] theorem Dev.raise_clc (c : Fin 11) (k : SubjectKind) (i code : Nat) (o : List Int) (d : Dev) : (d.raise c k i code o).clc = d.clc := rfl
@[simp] theorem Dev.raise_pbu (c : Fin 11) (k : SubjectKind) (i code : Nat) (o : List Int) (d : Dev) : (d.raise c k i code o).pbu = d.pbu := rfl
@[simp] theorem Dev.raise_spc (c : Fin 11) (k : SubjectKind) (i code : Nat) (o : List Int) (d : Dev) : (d.raise c k i code o).spc = d.spc := rfl
@[simp] theorem Dev.raise_ptc (c : Fin 11) (k : SubjectKind) (i code : Nat) (o : List Int) (d : Dev) : (d.raise c k i code o).ptc = d.ptc := rfl
@[simp] theorem Dev.raise_lcu (c : Fin 11) (k : SubjectKind) (i code : Nat) (o : List Int) (d : Dev) : (d.raise c k i code o).lcu = d.lcu := rfl
@[simp] theorem Dev.raise_store (c : Fin 11) (k : SubjectKind) (i code : Nat) (o : List Int) (d : Dev) : (d.raise c k i code o).store = d.store := rfl
@[simp] theorem Dev.raise_zne (c : Fin 11) (k : SubjectKind) (i code : Nat) (o : List Int) (d : Dev) : (d.raise c k i code o).zne = d.zne := rfl
@[simp] theorem Dev.raise_perm (c : Fin 11) (k : SubjectKind) (i code : Nat) (o : List Int) (d : Dev) : (d.raise c k i code o).perm = d.perm := rfl
@[simp] theorem Dev.raise_edu (c : Fin 11) (k : SubjectKind) (i code : Nat) (o : List Int) (d : Dev) : (d.raise c k i code o).edu = d.edu := rfl
@[simp] theorem Dev.raise_wtb (c : Fin 11) (k : SubjectKind) (i code : Nat) (o : List Int) (d : Dev) : (d.raise c k i code o).wtb = d.wtb := rfl
@[simp] theorem Dev.raise_mli (c : Fin 11) (k : SubjectKind) (i code : Nat) (o : List Int) (d : Dev) : (d.raise c k i code o).mli = d.mli := rfl
@[simp] theorem Dev.raise_msa (c : Fin 11) (k : SubjectKind) (i code : Nat) (o : List Int) (d : Dev) : (d.raise c k i code o).msa = d.msa := rfl
@[simp] theorem Dev.raise_causes (c : Fin 11) (k : SubjectKind) (i code : Nat) (o : List Int) (d : Dev) : (d.raise c k i code o).causes = d.causes := rfl
@[simp] theorem Dev.raise_hold (c : Fin 11) (k : SubjectKind) (i code : Nat) (o : List Int) (d : Dev) : (d.raise c k i code o).hold = d.hold := rfl
@[simp] theorem Dev.raise_work (c : Fin 11) (k : SubjectKind) (i code : Nat) (o : List Int) (d : Dev) : (d.raise c k i code o).work = d.work := rfl

@[simp] theorem Dev.modTier_now (y : Tier) (f : TierRec → TierRec) (d : Dev) : (d.modTier y f).now = d.now := by cases y <;> rfl
@[simp] theorem Dev.modTier_lines (y : Tier) (f : TierRec → TierRec) (d : Dev) : (d.modTier y f).lines = d.lines := by cases y <;> rfl
@[simp] theorem Dev.modTier_ssu (y : Tier) (f : TierRec → TierRec) (d : Dev) : (d.modTier y f).ssu = d.ssu := by cases y <;> rfl
@[simp] theorem Dev.modTier_clc (y : Tier) (f : TierRec → TierRec) (d : Dev) : (d.modTier y f).clc = d.clc := by cases y <;> rfl
@[simp] theorem Dev.modTier_pbu (y : Tier) (f : TierRec → TierRec) (d : Dev) : (d.modTier y f).pbu = d.pbu := by cases y <;> rfl
@[simp] theorem Dev.modTier_spc (y : Tier) (f : TierRec → TierRec) (d : Dev) : (d.modTier y f).spc = d.spc := by cases y <;> rfl
@[simp] theorem Dev.modTier_ptc (y : Tier) (f : TierRec → TierRec) (d : Dev) : (d.modTier y f).ptc = d.ptc := by cases y <;> rfl
@[simp] theorem Dev.modTier_store (y : Tier) (f : TierRec → TierRec) (d : Dev) : (d.modTier y f).store = d.store := by cases y <;> rfl
@[simp] theorem Dev.modTier_zne (y : Tier) (f : TierRec → TierRec) (d : Dev) : (d.modTier y f).zne = d.zne := by cases y <;> rfl
@[simp] theorem Dev.modTier_perm (y : Tier) (f : TierRec → TierRec) (d : Dev) : (d.modTier y f).perm = d.perm := by cases y <;> rfl
@[simp] theorem Dev.modTier_edu (y : Tier) (f : TierRec → TierRec) (d : Dev) : (d.modTier y f).edu = d.edu := by cases y <;> rfl
@[simp] theorem Dev.modTier_wtb (y : Tier) (f : TierRec → TierRec) (d : Dev) : (d.modTier y f).wtb = d.wtb := by cases y <;> rfl
@[simp] theorem Dev.modTier_atc (y : Tier) (f : TierRec → TierRec) (d : Dev) : (d.modTier y f).atc = d.atc := by cases y <;> rfl
@[simp] theorem Dev.modTier_mli (y : Tier) (f : TierRec → TierRec) (d : Dev) : (d.modTier y f).mli = d.mli := by cases y <;> rfl
@[simp] theorem Dev.modTier_msa (y : Tier) (f : TierRec → TierRec) (d : Dev) : (d.modTier y f).msa = d.msa := by cases y <;> rfl
@[simp] theorem Dev.modTier_causes (y : Tier) (f : TierRec → TierRec) (d : Dev) : (d.modTier y f).causes = d.causes := by cases y <;> rfl
@[simp] theorem Dev.modTier_hold (y : Tier) (f : TierRec → TierRec) (d : Dev) : (d.modTier y f).hold = d.hold := by cases y <;> rfl
@[simp] theorem Dev.modTier_work (y : Tier) (f : TierRec → TierRec) (d : Dev) : (d.modTier y f).work = d.work := by cases y <;> rfl

@[simp] theorem Dev.modLink_now (l : Link) (f : LinkRec → LinkRec) (d : Dev) : (d.modLink l f).now = d.now := by cases l <;> rfl
@[simp] theorem Dev.modLink_lines (l : Link) (f : LinkRec → LinkRec) (d : Dev) : (d.modLink l f).lines = d.lines := by cases l <;> rfl
@[simp] theorem Dev.modLink_ssu (l : Link) (f : LinkRec → LinkRec) (d : Dev) : (d.modLink l f).ssu = d.ssu := by cases l <;> rfl
@[simp] theorem Dev.modLink_clc (l : Link) (f : LinkRec → LinkRec) (d : Dev) : (d.modLink l f).clc = d.clc := by cases l <;> rfl
@[simp] theorem Dev.modLink_pbu (l : Link) (f : LinkRec → LinkRec) (d : Dev) : (d.modLink l f).pbu = d.pbu := by cases l <;> rfl
@[simp] theorem Dev.modLink_spc (l : Link) (f : LinkRec → LinkRec) (d : Dev) : (d.modLink l f).spc = d.spc := by cases l <;> rfl
@[simp] theorem Dev.modLink_ptc (l : Link) (f : LinkRec → LinkRec) (d : Dev) : (d.modLink l f).ptc = d.ptc := by cases l <;> rfl
@[simp] theorem Dev.modLink_lcu (l : Link) (f : LinkRec → LinkRec) (d : Dev) : (d.modLink l f).lcu = d.lcu := by cases l <;> rfl
@[simp] theorem Dev.modLink_store (l : Link) (f : LinkRec → LinkRec) (d : Dev) : (d.modLink l f).store = d.store := by cases l <;> rfl
@[simp] theorem Dev.modLink_zne (l : Link) (f : LinkRec → LinkRec) (d : Dev) : (d.modLink l f).zne = d.zne := by cases l <;> rfl
@[simp] theorem Dev.modLink_perm (l : Link) (f : LinkRec → LinkRec) (d : Dev) : (d.modLink l f).perm = d.perm := by cases l <;> rfl
@[simp] theorem Dev.modLink_edu (l : Link) (f : LinkRec → LinkRec) (d : Dev) : (d.modLink l f).edu = d.edu := by cases l <;> rfl
@[simp] theorem Dev.modLink_wtb (l : Link) (f : LinkRec → LinkRec) (d : Dev) : (d.modLink l f).wtb = d.wtb := by cases l <;> rfl
@[simp] theorem Dev.modLink_atc (l : Link) (f : LinkRec → LinkRec) (d : Dev) : (d.modLink l f).atc = d.atc := by cases l <;> rfl
@[simp] theorem Dev.modLink_msa (l : Link) (f : LinkRec → LinkRec) (d : Dev) : (d.modLink l f).msa = d.msa := by cases l <;> rfl
@[simp] theorem Dev.modLink_causes (l : Link) (f : LinkRec → LinkRec) (d : Dev) : (d.modLink l f).causes = d.causes := by cases l <;> rfl
@[simp] theorem Dev.modLink_hold (l : Link) (f : LinkRec → LinkRec) (d : Dev) : (d.modLink l f).hold = d.hold := by cases l <;> rfl
@[simp] theorem Dev.modLink_work (l : Link) (f : LinkRec → LinkRec) (d : Dev) : (d.modLink l f).work = d.work := by cases l <;> rfl

@[simp] theorem Dev.answer_now (l : Link) (g : Frame) (st : Status) (x : List Item) (d : Dev) : (d.answer l g st x).now = d.now := by cases l <;> rfl
@[simp] theorem Dev.answer_lines (l : Link) (g : Frame) (st : Status) (x : List Item) (d : Dev) : (d.answer l g st x).lines = d.lines := by cases l <;> rfl
@[simp] theorem Dev.answer_ssu (l : Link) (g : Frame) (st : Status) (x : List Item) (d : Dev) : (d.answer l g st x).ssu = d.ssu := by cases l <;> rfl
@[simp] theorem Dev.answer_clc (l : Link) (g : Frame) (st : Status) (x : List Item) (d : Dev) : (d.answer l g st x).clc = d.clc := by cases l <;> rfl
@[simp] theorem Dev.answer_pbu (l : Link) (g : Frame) (st : Status) (x : List Item) (d : Dev) : (d.answer l g st x).pbu = d.pbu := by cases l <;> rfl
@[simp] theorem Dev.answer_spc (l : Link) (g : Frame) (st : Status) (x : List Item) (d : Dev) : (d.answer l g st x).spc = d.spc := by cases l <;> rfl
@[simp] theorem Dev.answer_ptc (l : Link) (g : Frame) (st : Status) (x : List Item) (d : Dev) : (d.answer l g st x).ptc = d.ptc := by cases l <;> rfl
@[simp] theorem Dev.answer_lcu (l : Link) (g : Frame) (st : Status) (x : List Item) (d : Dev) : (d.answer l g st x).lcu = d.lcu := by cases l <;> rfl
@[simp] theorem Dev.answer_store (l : Link) (g : Frame) (st : Status) (x : List Item) (d : Dev) : (d.answer l g st x).store = d.store := by cases l <;> rfl
@[simp] theorem Dev.answer_zne (l : Link) (g : Frame) (st : Status) (x : List Item) (d : Dev) : (d.answer l g st x).zne = d.zne := by cases l <;> rfl
@[simp] theorem Dev.answer_perm (l : Link) (g : Frame) (st : Status) (x : List Item) (d : Dev) : (d.answer l g st x).perm = d.perm := by cases l <;> rfl
@[simp] theorem Dev.answer_edu (l : Link) (g : Frame) (st : Status) (x : List Item) (d : Dev) : (d.answer l g st x).edu = d.edu := by cases l <;> rfl
@[simp] theorem Dev.answer_wtb (l : Link) (g : Frame) (st : Status) (x : List Item) (d : Dev) : (d.answer l g st x).wtb = d.wtb := by cases l <;> rfl
@[simp] theorem Dev.answer_atc (l : Link) (g : Frame) (st : Status) (x : List Item) (d : Dev) : (d.answer l g st x).atc = d.atc := by cases l <;> rfl
@[simp] theorem Dev.answer_msa (l : Link) (g : Frame) (st : Status) (x : List Item) (d : Dev) : (d.answer l g st x).msa = d.msa := by cases l <;> rfl
@[simp] theorem Dev.answer_causes (l : Link) (g : Frame) (st : Status) (x : List Item) (d : Dev) : (d.answer l g st x).causes = d.causes := by cases l <;> rfl
@[simp] theorem Dev.answer_hold (l : Link) (g : Frame) (st : Status) (x : List Item) (d : Dev) : (d.answer l g st x).hold = d.hold := by cases l <;> rfl
@[simp] theorem Dev.answer_work (l : Link) (g : Frame) (st : Status) (x : List Item) (d : Dev) : (d.answer l g st x).work = d.work := by cases l <;> rfl

@[simp] theorem Dev.dropRole_now (l : Link) (d : Dev) : (d.dropRole l).now = d.now := by cases l <;> rfl
@[simp] theorem Dev.dropRole_lines (l : Link) (d : Dev) : (d.dropRole l).lines = d.lines := by cases l <;> rfl
@[simp] theorem Dev.dropRole_ssu (l : Link) (d : Dev) : (d.dropRole l).ssu = d.ssu := by cases l <;> rfl
@[simp] theorem Dev.dropRole_clc (l : Link) (d : Dev) : (d.dropRole l).clc = d.clc := by cases l <;> rfl
@[simp] theorem Dev.dropRole_pbu (l : Link) (d : Dev) : (d.dropRole l).pbu = d.pbu := by cases l <;> rfl
@[simp] theorem Dev.dropRole_spc (l : Link) (d : Dev) : (d.dropRole l).spc = d.spc := by cases l <;> rfl
@[simp] theorem Dev.dropRole_ptc (l : Link) (d : Dev) : (d.dropRole l).ptc = d.ptc := by cases l <;> rfl
@[simp] theorem Dev.dropRole_lcu (l : Link) (d : Dev) : (d.dropRole l).lcu = d.lcu := by cases l <;> rfl
@[simp] theorem Dev.dropRole_store (l : Link) (d : Dev) : (d.dropRole l).store = d.store := by cases l <;> rfl
@[simp] theorem Dev.dropRole_zne (l : Link) (d : Dev) : (d.dropRole l).zne = d.zne := by cases l <;> rfl
@[simp] theorem Dev.dropRole_perm (l : Link) (d : Dev) : (d.dropRole l).perm = d.perm := by cases l <;> rfl
@[simp] theorem Dev.dropRole_edu (l : Link) (d : Dev) : (d.dropRole l).edu = d.edu := by cases l <;> rfl
@[simp] theorem Dev.dropRole_wtb (l : Link) (d : Dev) : (d.dropRole l).wtb = d.wtb := by cases l <;> rfl
@[simp] theorem Dev.dropRole_atc (l : Link) (d : Dev) : (d.dropRole l).atc = d.atc := by cases l <;> rfl
@[simp] theorem Dev.dropRole_msa (l : Link) (d : Dev) : (d.dropRole l).msa = d.msa := by cases l <;> rfl
@[simp] theorem Dev.dropRole_causes (l : Link) (d : Dev) : (d.dropRole l).causes = d.causes := by cases l <;> rfl
@[simp] theorem Dev.dropRole_hold (l : Link) (d : Dev) : (d.dropRole l).hold = d.hold := by cases l <;> rfl
@[simp] theorem Dev.dropRole_work (l : Link) (d : Dev) : (d.dropRole l).work = d.work := by cases l <;> rfl

@[simp] theorem Dev.startTxs_now (d : Dev) : (d.startTxs).now = d.now := rfl
@[simp] theorem Dev.startTxs_lines (d : Dev) : (d.startTxs).lines = d.lines := rfl
@[simp] theorem Dev.startTxs_ssu (d : Dev) : (d.startTxs).ssu = d.ssu := rfl
@[simp] theorem Dev.startTxs_clc (d : Dev) : (d.startTxs).clc = d.clc := rfl
@[simp] theorem Dev.startTxs_pbu (d : Dev) : (d.startTxs).pbu = d.pbu := rfl
@[simp] theorem Dev.startTxs_spc (d : Dev) : (d.startTxs).spc = d.spc := rfl
@[simp] theorem Dev.startTxs_ptc (d : Dev) : (d.startTxs).ptc = d.ptc := rfl
@[simp] theorem Dev.startTxs_lcu (d : Dev) : (d.startTxs).lcu = d.lcu := rfl
@[simp] theorem Dev.startTxs_store (d : Dev) : (d.startTxs).store = d.store := rfl
@[simp] theorem Dev.startTxs_zne (d : Dev) : (d.startTxs).zne = d.zne := rfl
@[simp] theorem Dev.startTxs_perm (d : Dev) : (d.startTxs).perm = d.perm := rfl
@[simp] theorem Dev.startTxs_edu (d : Dev) : (d.startTxs).edu = d.edu := rfl
@[simp] theorem Dev.startTxs_wtb (d : Dev) : (d.startTxs).wtb = d.wtb := rfl
@[simp] theorem Dev.startTxs_atc (d : Dev) : (d.startTxs).atc = d.atc := rfl
@[simp] theorem Dev.startTxs_msa (d : Dev) : (d.startTxs).msa = d.msa := rfl
@[simp] theorem Dev.startTxs_causes (d : Dev) : (d.startTxs).causes = d.causes := rfl
@[simp] theorem Dev.startTxs_hold (d : Dev) : (d.startTxs).hold = d.hold := rfl
@[simp] theorem Dev.startTxs_work (d : Dev) : (d.startTxs).work = d.work := rfl

@[simp] theorem Dev.modFan_now (i : Fin 6) (f : FanRec → FanRec) (d : Dev) : (d.modFan i f).now = d.now := rfl
@[simp] theorem Dev.modFan_lines (i : Fin 6) (f : FanRec → FanRec) (d : Dev) : (d.modFan i f).lines = d.lines := rfl
@[simp] theorem Dev.modFan_ssu (i : Fin 6) (f : FanRec → FanRec) (d : Dev) : (d.modFan i f).ssu = d.ssu := rfl
@[simp] theorem Dev.modFan_pbu (i : Fin 6) (f : FanRec → FanRec) (d : Dev) : (d.modFan i f).pbu = d.pbu := rfl
@[simp] theorem Dev.modFan_spc (i : Fin 6) (f : FanRec → FanRec) (d : Dev) : (d.modFan i f).spc = d.spc := rfl
@[simp] theorem Dev.modFan_ptc (i : Fin 6) (f : FanRec → FanRec) (d : Dev) : (d.modFan i f).ptc = d.ptc := rfl
@[simp] theorem Dev.modFan_lcu (i : Fin 6) (f : FanRec → FanRec) (d : Dev) : (d.modFan i f).lcu = d.lcu := rfl
@[simp] theorem Dev.modFan_store (i : Fin 6) (f : FanRec → FanRec) (d : Dev) : (d.modFan i f).store = d.store := rfl
@[simp] theorem Dev.modFan_zne (i : Fin 6) (f : FanRec → FanRec) (d : Dev) : (d.modFan i f).zne = d.zne := rfl
@[simp] theorem Dev.modFan_perm (i : Fin 6) (f : FanRec → FanRec) (d : Dev) : (d.modFan i f).perm = d.perm := rfl
@[simp] theorem Dev.modFan_edu (i : Fin 6) (f : FanRec → FanRec) (d : Dev) : (d.modFan i f).edu = d.edu := rfl
@[simp] theorem Dev.modFan_wtb (i : Fin 6) (f : FanRec → FanRec) (d : Dev) : (d.modFan i f).wtb = d.wtb := rfl
@[simp] theorem Dev.modFan_atc (i : Fin 6) (f : FanRec → FanRec) (d : Dev) : (d.modFan i f).atc = d.atc := rfl
@[simp] theorem Dev.modFan_mli (i : Fin 6) (f : FanRec → FanRec) (d : Dev) : (d.modFan i f).mli = d.mli := rfl
@[simp] theorem Dev.modFan_msa (i : Fin 6) (f : FanRec → FanRec) (d : Dev) : (d.modFan i f).msa = d.msa := rfl
@[simp] theorem Dev.modFan_causes (i : Fin 6) (f : FanRec → FanRec) (d : Dev) : (d.modFan i f).causes = d.causes := rfl
@[simp] theorem Dev.modFan_hold (i : Fin 6) (f : FanRec → FanRec) (d : Dev) : (d.modFan i f).hold = d.hold := rfl
@[simp] theorem Dev.modFan_work (i : Fin 6) (f : FanRec → FanRec) (d : Dev) : (d.modFan i f).work = d.work := rfl

@[simp] theorem Dev.modTray_now (i : Fin 3) (f : TrayRec → TrayRec) (d : Dev) : (d.modTray i f).now = d.now := rfl
@[simp] theorem Dev.modTray_lines (i : Fin 3) (f : TrayRec → TrayRec) (d : Dev) : (d.modTray i f).lines = d.lines := rfl
@[simp] theorem Dev.modTray_ssu (i : Fin 3) (f : TrayRec → TrayRec) (d : Dev) : (d.modTray i f).ssu = d.ssu := rfl
@[simp] theorem Dev.modTray_pbu (i : Fin 3) (f : TrayRec → TrayRec) (d : Dev) : (d.modTray i f).pbu = d.pbu := rfl
@[simp] theorem Dev.modTray_spc (i : Fin 3) (f : TrayRec → TrayRec) (d : Dev) : (d.modTray i f).spc = d.spc := rfl
@[simp] theorem Dev.modTray_ptc (i : Fin 3) (f : TrayRec → TrayRec) (d : Dev) : (d.modTray i f).ptc = d.ptc := rfl
@[simp] theorem Dev.modTray_lcu (i : Fin 3) (f : TrayRec → TrayRec) (d : Dev) : (d.modTray i f).lcu = d.lcu := rfl
@[simp] theorem Dev.modTray_store (i : Fin 3) (f : TrayRec → TrayRec) (d : Dev) : (d.modTray i f).store = d.store := rfl
@[simp] theorem Dev.modTray_zne (i : Fin 3) (f : TrayRec → TrayRec) (d : Dev) : (d.modTray i f).zne = d.zne := rfl
@[simp] theorem Dev.modTray_perm (i : Fin 3) (f : TrayRec → TrayRec) (d : Dev) : (d.modTray i f).perm = d.perm := rfl
@[simp] theorem Dev.modTray_edu (i : Fin 3) (f : TrayRec → TrayRec) (d : Dev) : (d.modTray i f).edu = d.edu := rfl
@[simp] theorem Dev.modTray_wtb (i : Fin 3) (f : TrayRec → TrayRec) (d : Dev) : (d.modTray i f).wtb = d.wtb := rfl
@[simp] theorem Dev.modTray_atc (i : Fin 3) (f : TrayRec → TrayRec) (d : Dev) : (d.modTray i f).atc = d.atc := rfl
@[simp] theorem Dev.modTray_mli (i : Fin 3) (f : TrayRec → TrayRec) (d : Dev) : (d.modTray i f).mli = d.mli := rfl
@[simp] theorem Dev.modTray_msa (i : Fin 3) (f : TrayRec → TrayRec) (d : Dev) : (d.modTray i f).msa = d.msa := rfl
@[simp] theorem Dev.modTray_causes (i : Fin 3) (f : TrayRec → TrayRec) (d : Dev) : (d.modTray i f).causes = d.causes := rfl
@[simp] theorem Dev.modTray_hold (i : Fin 3) (f : TrayRec → TrayRec) (d : Dev) : (d.modTray i f).hold = d.hold := rfl
@[simp] theorem Dev.modTray_work (i : Fin 3) (f : TrayRec → TrayRec) (d : Dev) : (d.modTray i f).work = d.work := rfl

@[simp] theorem Dev.modGroup_now (i : Fin 3) (f : GroupRec → GroupRec) (d : Dev) : (d.modGroup i f).now = d.now := rfl
@[simp] theorem Dev.modGroup_lines (i : Fin 3) (f : GroupRec → GroupRec) (d : Dev) : (d.modGroup i f).lines = d.lines := rfl
@[simp] theorem Dev.modGroup_ssu (i : Fin 3) (f : GroupRec → GroupRec) (d : Dev) : (d.modGroup i f).ssu = d.ssu := rfl
@[simp] theorem Dev.modGroup_pbu (i : Fin 3) (f : GroupRec → GroupRec) (d : Dev) : (d.modGroup i f).pbu = d.pbu := rfl
@[simp] theorem Dev.modGroup_spc (i : Fin 3) (f : GroupRec → GroupRec) (d : Dev) : (d.modGroup i f).spc = d.spc := rfl
@[simp] theorem Dev.modGroup_ptc (i : Fin 3) (f : GroupRec → GroupRec) (d : Dev) : (d.modGroup i f).ptc = d.ptc := rfl
@[simp] theorem Dev.modGroup_lcu (i : Fin 3) (f : GroupRec → GroupRec) (d : Dev) : (d.modGroup i f).lcu = d.lcu := rfl
@[simp] theorem Dev.modGroup_store (i : Fin 3) (f : GroupRec → GroupRec) (d : Dev) : (d.modGroup i f).store = d.store := rfl
@[simp] theorem Dev.modGroup_zne (i : Fin 3) (f : GroupRec → GroupRec) (d : Dev) : (d.modGroup i f).zne = d.zne := rfl
@[simp] theorem Dev.modGroup_perm (i : Fin 3) (f : GroupRec → GroupRec) (d : Dev) : (d.modGroup i f).perm = d.perm := rfl
@[simp] theorem Dev.modGroup_edu (i : Fin 3) (f : GroupRec → GroupRec) (d : Dev) : (d.modGroup i f).edu = d.edu := rfl
@[simp] theorem Dev.modGroup_wtb (i : Fin 3) (f : GroupRec → GroupRec) (d : Dev) : (d.modGroup i f).wtb = d.wtb := rfl
@[simp] theorem Dev.modGroup_atc (i : Fin 3) (f : GroupRec → GroupRec) (d : Dev) : (d.modGroup i f).atc = d.atc := rfl
@[simp] theorem Dev.modGroup_mli (i : Fin 3) (f : GroupRec → GroupRec) (d : Dev) : (d.modGroup i f).mli = d.mli := rfl
@[simp] theorem Dev.modGroup_msa (i : Fin 3) (f : GroupRec → GroupRec) (d : Dev) : (d.modGroup i f).msa = d.msa := rfl
@[simp] theorem Dev.modGroup_causes (i : Fin 3) (f : GroupRec → GroupRec) (d : Dev) : (d.modGroup i f).causes = d.causes := rfl
@[simp] theorem Dev.modGroup_hold (i : Fin 3) (f : GroupRec → GroupRec) (d : Dev) : (d.modGroup i f).hold = d.hold := rfl
@[simp] theorem Dev.modGroup_work (i : Fin 3) (f : GroupRec → GroupRec) (d : Dev) : (d.modGroup i f).work = d.work := rfl

@[simp] theorem Dev.modCur_now (n : SlotNo) (f : ChanRec → ChanRec) (d : Dev) : (d.modCur n f).now = d.now := rfl
@[simp] theorem Dev.modCur_lines (n : SlotNo) (f : ChanRec → ChanRec) (d : Dev) : (d.modCur n f).lines = d.lines := rfl
@[simp] theorem Dev.modCur_clc (n : SlotNo) (f : ChanRec → ChanRec) (d : Dev) : (d.modCur n f).clc = d.clc := rfl
@[simp] theorem Dev.modCur_pbu (n : SlotNo) (f : ChanRec → ChanRec) (d : Dev) : (d.modCur n f).pbu = d.pbu := rfl
@[simp] theorem Dev.modCur_spc (n : SlotNo) (f : ChanRec → ChanRec) (d : Dev) : (d.modCur n f).spc = d.spc := rfl
@[simp] theorem Dev.modCur_ptc (n : SlotNo) (f : ChanRec → ChanRec) (d : Dev) : (d.modCur n f).ptc = d.ptc := rfl
@[simp] theorem Dev.modCur_lcu (n : SlotNo) (f : ChanRec → ChanRec) (d : Dev) : (d.modCur n f).lcu = d.lcu := rfl
@[simp] theorem Dev.modCur_store (n : SlotNo) (f : ChanRec → ChanRec) (d : Dev) : (d.modCur n f).store = d.store := rfl
@[simp] theorem Dev.modCur_zne (n : SlotNo) (f : ChanRec → ChanRec) (d : Dev) : (d.modCur n f).zne = d.zne := rfl
@[simp] theorem Dev.modCur_perm (n : SlotNo) (f : ChanRec → ChanRec) (d : Dev) : (d.modCur n f).perm = d.perm := rfl
@[simp] theorem Dev.modCur_edu (n : SlotNo) (f : ChanRec → ChanRec) (d : Dev) : (d.modCur n f).edu = d.edu := rfl
@[simp] theorem Dev.modCur_wtb (n : SlotNo) (f : ChanRec → ChanRec) (d : Dev) : (d.modCur n f).wtb = d.wtb := rfl
@[simp] theorem Dev.modCur_atc (n : SlotNo) (f : ChanRec → ChanRec) (d : Dev) : (d.modCur n f).atc = d.atc := rfl
@[simp] theorem Dev.modCur_mli (n : SlotNo) (f : ChanRec → ChanRec) (d : Dev) : (d.modCur n f).mli = d.mli := rfl
@[simp] theorem Dev.modCur_msa (n : SlotNo) (f : ChanRec → ChanRec) (d : Dev) : (d.modCur n f).msa = d.msa := rfl
@[simp] theorem Dev.modCur_causes (n : SlotNo) (f : ChanRec → ChanRec) (d : Dev) : (d.modCur n f).causes = d.causes := rfl
@[simp] theorem Dev.modCur_hold (n : SlotNo) (f : ChanRec → ChanRec) (d : Dev) : (d.modCur n f).hold = d.hold := rfl
@[simp] theorem Dev.modCur_work (n : SlotNo) (f : ChanRec → ChanRec) (d : Dev) : (d.modCur n f).work = d.work := rfl

@[simp] theorem Dev.modTemp_now (i : Fin 16) (f : ChanRec → ChanRec) (d : Dev) : (d.modTemp i f).now = d.now := rfl
@[simp] theorem Dev.modTemp_lines (i : Fin 16) (f : ChanRec → ChanRec) (d : Dev) : (d.modTemp i f).lines = d.lines := rfl
@[simp] theorem Dev.modTemp_clc (i : Fin 16) (f : ChanRec → ChanRec) (d : Dev) : (d.modTemp i f).clc = d.clc := rfl
@[simp] theorem Dev.modTemp_pbu (i : Fin 16) (f : ChanRec → ChanRec) (d : Dev) : (d.modTemp i f).pbu = d.pbu := rfl
@[simp] theorem Dev.modTemp_spc (i : Fin 16) (f : ChanRec → ChanRec) (d : Dev) : (d.modTemp i f).spc = d.spc := rfl
@[simp] theorem Dev.modTemp_ptc (i : Fin 16) (f : ChanRec → ChanRec) (d : Dev) : (d.modTemp i f).ptc = d.ptc := rfl
@[simp] theorem Dev.modTemp_lcu (i : Fin 16) (f : ChanRec → ChanRec) (d : Dev) : (d.modTemp i f).lcu = d.lcu := rfl
@[simp] theorem Dev.modTemp_store (i : Fin 16) (f : ChanRec → ChanRec) (d : Dev) : (d.modTemp i f).store = d.store := rfl
@[simp] theorem Dev.modTemp_zne (i : Fin 16) (f : ChanRec → ChanRec) (d : Dev) : (d.modTemp i f).zne = d.zne := rfl
@[simp] theorem Dev.modTemp_perm (i : Fin 16) (f : ChanRec → ChanRec) (d : Dev) : (d.modTemp i f).perm = d.perm := rfl
@[simp] theorem Dev.modTemp_edu (i : Fin 16) (f : ChanRec → ChanRec) (d : Dev) : (d.modTemp i f).edu = d.edu := rfl
@[simp] theorem Dev.modTemp_wtb (i : Fin 16) (f : ChanRec → ChanRec) (d : Dev) : (d.modTemp i f).wtb = d.wtb := rfl
@[simp] theorem Dev.modTemp_atc (i : Fin 16) (f : ChanRec → ChanRec) (d : Dev) : (d.modTemp i f).atc = d.atc := rfl
@[simp] theorem Dev.modTemp_mli (i : Fin 16) (f : ChanRec → ChanRec) (d : Dev) : (d.modTemp i f).mli = d.mli := rfl
@[simp] theorem Dev.modTemp_msa (i : Fin 16) (f : ChanRec → ChanRec) (d : Dev) : (d.modTemp i f).msa = d.msa := rfl
@[simp] theorem Dev.modTemp_causes (i : Fin 16) (f : ChanRec → ChanRec) (d : Dev) : (d.modTemp i f).causes = d.causes := rfl
@[simp] theorem Dev.modTemp_hold (i : Fin 16) (f : ChanRec → ChanRec) (d : Dev) : (d.modTemp i f).hold = d.hold := rfl
@[simp] theorem Dev.modTemp_work (i : Fin 16) (f : ChanRec → ChanRec) (d : Dev) : (d.modTemp i f).work = d.work := rfl

@[simp] theorem Dev.modLimits_now (i : Fin 16) (f : LimitRec → LimitRec) (d : Dev) : (d.modLimits i f).now = d.now := rfl
@[simp] theorem Dev.modLimits_lines (i : Fin 16) (f : LimitRec → LimitRec) (d : Dev) : (d.modLimits i f).lines = d.lines := rfl
@[simp] theorem Dev.modLimits_clc (i : Fin 16) (f : LimitRec → LimitRec) (d : Dev) : (d.modLimits i f).clc = d.clc := rfl
@[simp] theorem Dev.modLimits_pbu (i : Fin 16) (f : LimitRec → LimitRec) (d : Dev) : (d.modLimits i f).pbu = d.pbu := rfl
@[simp] theorem Dev.modLimits_spc (i : Fin 16) (f : LimitRec → LimitRec) (d : Dev) : (d.modLimits i f).spc = d.spc := rfl
@[simp] theorem Dev.modLimits_ptc (i : Fin 16) (f : LimitRec → LimitRec) (d : Dev) : (d.modLimits i f).ptc = d.ptc := rfl
@[simp] theorem Dev.modLimits_lcu (i : Fin 16) (f : LimitRec → LimitRec) (d : Dev) : (d.modLimits i f).lcu = d.lcu := rfl
@[simp] theorem Dev.modLimits_store (i : Fin 16) (f : LimitRec → LimitRec) (d : Dev) : (d.modLimits i f).store = d.store := rfl
@[simp] theorem Dev.modLimits_zne (i : Fin 16) (f : LimitRec → LimitRec) (d : Dev) : (d.modLimits i f).zne = d.zne := rfl
@[simp] theorem Dev.modLimits_perm (i : Fin 16) (f : LimitRec → LimitRec) (d : Dev) : (d.modLimits i f).perm = d.perm := rfl
@[simp] theorem Dev.modLimits_edu (i : Fin 16) (f : LimitRec → LimitRec) (d : Dev) : (d.modLimits i f).edu = d.edu := rfl
@[simp] theorem Dev.modLimits_wtb (i : Fin 16) (f : LimitRec → LimitRec) (d : Dev) : (d.modLimits i f).wtb = d.wtb := rfl
@[simp] theorem Dev.modLimits_atc (i : Fin 16) (f : LimitRec → LimitRec) (d : Dev) : (d.modLimits i f).atc = d.atc := rfl
@[simp] theorem Dev.modLimits_mli (i : Fin 16) (f : LimitRec → LimitRec) (d : Dev) : (d.modLimits i f).mli = d.mli := rfl
@[simp] theorem Dev.modLimits_msa (i : Fin 16) (f : LimitRec → LimitRec) (d : Dev) : (d.modLimits i f).msa = d.msa := rfl
@[simp] theorem Dev.modLimits_causes (i : Fin 16) (f : LimitRec → LimitRec) (d : Dev) : (d.modLimits i f).causes = d.causes := rfl
@[simp] theorem Dev.modLimits_hold (i : Fin 16) (f : LimitRec → LimitRec) (d : Dev) : (d.modLimits i f).hold = d.hold := rfl
@[simp] theorem Dev.modLimits_work (i : Fin 16) (f : LimitRec → LimitRec) (d : Dev) : (d.modLimits i f).work = d.work := rfl

@[simp] theorem Dev.figureRest_now (d : Dev) : (d.figureRest).now = d.now := rfl
@[simp] theorem Dev.figureRest_lines (d : Dev) : (d.figureRest).lines = d.lines := rfl
@[simp] theorem Dev.figureRest_ssu (d : Dev) : (d.figureRest).ssu = d.ssu := rfl
@[simp] theorem Dev.figureRest_clc (d : Dev) : (d.figureRest).clc = d.clc := rfl
@[simp] theorem Dev.figureRest_spc (d : Dev) : (d.figureRest).spc = d.spc := rfl
@[simp] theorem Dev.figureRest_ptc (d : Dev) : (d.figureRest).ptc = d.ptc := rfl
@[simp] theorem Dev.figureRest_lcu (d : Dev) : (d.figureRest).lcu = d.lcu := rfl
@[simp] theorem Dev.figureRest_store (d : Dev) : (d.figureRest).store = d.store := rfl
@[simp] theorem Dev.figureRest_zne (d : Dev) : (d.figureRest).zne = d.zne := rfl
@[simp] theorem Dev.figureRest_perm (d : Dev) : (d.figureRest).perm = d.perm := rfl
@[simp] theorem Dev.figureRest_edu (d : Dev) : (d.figureRest).edu = d.edu := rfl
@[simp] theorem Dev.figureRest_wtb (d : Dev) : (d.figureRest).wtb = d.wtb := rfl
@[simp] theorem Dev.figureRest_atc (d : Dev) : (d.figureRest).atc = d.atc := rfl
@[simp] theorem Dev.figureRest_mli (d : Dev) : (d.figureRest).mli = d.mli := rfl
@[simp] theorem Dev.figureRest_msa (d : Dev) : (d.figureRest).msa = d.msa := rfl
@[simp] theorem Dev.figureRest_causes (d : Dev) : (d.figureRest).causes = d.causes := rfl
@[simp] theorem Dev.figureRest_hold (d : Dev) : (d.figureRest).hold = d.hold := rfl
@[simp] theorem Dev.figureRest_work (d : Dev) : (d.figureRest).work = d.work := rfl

@[simp] theorem Dev.nextTurns_now (d : Dev) : (d.nextTurns).now = d.now := rfl
@[simp] theorem Dev.nextTurns_lines (d : Dev) : (d.nextTurns).lines = d.lines := rfl
@[simp] theorem Dev.nextTurns_clc (d : Dev) : (d.nextTurns).clc = d.clc := rfl
@[simp] theorem Dev.nextTurns_pbu (d : Dev) : (d.nextTurns).pbu = d.pbu := rfl
@[simp] theorem Dev.nextTurns_spc (d : Dev) : (d.nextTurns).spc = d.spc := rfl
@[simp] theorem Dev.nextTurns_ptc (d : Dev) : (d.nextTurns).ptc = d.ptc := rfl
@[simp] theorem Dev.nextTurns_lcu (d : Dev) : (d.nextTurns).lcu = d.lcu := rfl
@[simp] theorem Dev.nextTurns_store (d : Dev) : (d.nextTurns).store = d.store := rfl
@[simp] theorem Dev.nextTurns_zne (d : Dev) : (d.nextTurns).zne = d.zne := rfl
@[simp] theorem Dev.nextTurns_perm (d : Dev) : (d.nextTurns).perm = d.perm := rfl
@[simp] theorem Dev.nextTurns_edu (d : Dev) : (d.nextTurns).edu = d.edu := rfl
@[simp] theorem Dev.nextTurns_wtb (d : Dev) : (d.nextTurns).wtb = d.wtb := rfl
@[simp] theorem Dev.nextTurns_atc (d : Dev) : (d.nextTurns).atc = d.atc := rfl
@[simp] theorem Dev.nextTurns_mli (d : Dev) : (d.nextTurns).mli = d.mli := rfl
@[simp] theorem Dev.nextTurns_msa (d : Dev) : (d.nextTurns).msa = d.msa := rfl
@[simp] theorem Dev.nextTurns_causes (d : Dev) : (d.nextTurns).causes = d.causes := rfl
@[simp] theorem Dev.nextTurns_hold (d : Dev) : (d.nextTurns).hold = d.hold := rfl
@[simp] theorem Dev.nextTurns_work (d : Dev) : (d.nextTurns).work = d.work := rfl

/-! ## The clock, the stamps and the work of an event -/

@[simp] theorem Dev.passTo_lines (n : Nat) (d : Dev) : (d.passTo n).lines = d.lines := rfl
@[simp] theorem Dev.passTo_ssu (n : Nat) (d : Dev) : (d.passTo n).ssu = d.ssu := rfl
@[simp] theorem Dev.passTo_clc (n : Nat) (d : Dev) : (d.passTo n).clc = d.clc := rfl
@[simp] theorem Dev.passTo_pbu (n : Nat) (d : Dev) : (d.passTo n).pbu = d.pbu := rfl
@[simp] theorem Dev.passTo_spc (n : Nat) (d : Dev) : (d.passTo n).spc = d.spc := rfl
@[simp] theorem Dev.passTo_ptc (n : Nat) (d : Dev) : (d.passTo n).ptc = d.ptc := rfl
@[simp] theorem Dev.passTo_lcu (n : Nat) (d : Dev) : (d.passTo n).lcu = d.lcu := rfl
@[simp] theorem Dev.passTo_store (n : Nat) (d : Dev) : (d.passTo n).store = d.store := rfl
@[simp] theorem Dev.passTo_zne (n : Nat) (d : Dev) : (d.passTo n).zne = d.zne := rfl
@[simp] theorem Dev.passTo_perm (n : Nat) (d : Dev) : (d.passTo n).perm = d.perm := rfl
@[simp] theorem Dev.passTo_edu (n : Nat) (d : Dev) : (d.passTo n).edu = d.edu := rfl
@[simp] theorem Dev.passTo_wtb (n : Nat) (d : Dev) : (d.passTo n).wtb = d.wtb := rfl
@[simp] theorem Dev.passTo_atc (n : Nat) (d : Dev) : (d.passTo n).atc = d.atc := rfl
@[simp] theorem Dev.passTo_mli (n : Nat) (d : Dev) : (d.passTo n).mli = d.mli := rfl
@[simp] theorem Dev.passTo_msa (n : Nat) (d : Dev) : (d.passTo n).msa = d.msa := rfl
@[simp] theorem Dev.passTo_causes (n : Nat) (d : Dev) : (d.passTo n).causes = d.causes := rfl
@[simp] theorem Dev.passTo_hold (n : Nat) (d : Dev) : (d.passTo n).hold = d.hold := rfl
@[simp] theorem Dev.passTo_work (n : Nat) (d : Dev) : (d.passTo n).work = d.work := rfl

@[simp] theorem Dev.useStamp_now (d : Dev) : (d.useStamp).now = d.now := rfl
@[simp] theorem Dev.useStamp_lines (d : Dev) : (d.useStamp).lines = d.lines := rfl
@[simp] theorem Dev.useStamp_ssu (d : Dev) : (d.useStamp).ssu = d.ssu := rfl
@[simp] theorem Dev.useStamp_clc (d : Dev) : (d.useStamp).clc = d.clc := rfl
@[simp] theorem Dev.useStamp_pbu (d : Dev) : (d.useStamp).pbu = d.pbu := rfl
@[simp] theorem Dev.useStamp_spc (d : Dev) : (d.useStamp).spc = d.spc := rfl
@[simp] theorem Dev.useStamp_ptc (d : Dev) : (d.useStamp).ptc = d.ptc := rfl
@[simp] theorem Dev.useStamp_lcu (d : Dev) : (d.useStamp).lcu = d.lcu := rfl
@[simp] theorem Dev.useStamp_store (d : Dev) : (d.useStamp).store = d.store := rfl
@[simp] theorem Dev.useStamp_zne (d : Dev) : (d.useStamp).zne = d.zne := rfl
@[simp] theorem Dev.useStamp_perm (d : Dev) : (d.useStamp).perm = d.perm := rfl
@[simp] theorem Dev.useStamp_edu (d : Dev) : (d.useStamp).edu = d.edu := rfl
@[simp] theorem Dev.useStamp_atc (d : Dev) : (d.useStamp).atc = d.atc := rfl
@[simp] theorem Dev.useStamp_mli (d : Dev) : (d.useStamp).mli = d.mli := rfl
@[simp] theorem Dev.useStamp_msa (d : Dev) : (d.useStamp).msa = d.msa := rfl
@[simp] theorem Dev.useStamp_causes (d : Dev) : (d.useStamp).causes = d.causes := rfl
@[simp] theorem Dev.useStamp_hold (d : Dev) : (d.useStamp).hold = d.hold := rfl
@[simp] theorem Dev.useStamp_work (d : Dev) : (d.useStamp).work = d.work := rfl

@[simp] theorem Dev.callRestore_now (d : Dev) : (d.callRestore).now = d.now := rfl
@[simp] theorem Dev.callRestore_lines (d : Dev) : (d.callRestore).lines = d.lines := rfl
@[simp] theorem Dev.callRestore_ssu (d : Dev) : (d.callRestore).ssu = d.ssu := rfl
@[simp] theorem Dev.callRestore_clc (d : Dev) : (d.callRestore).clc = d.clc := rfl
@[simp] theorem Dev.callRestore_pbu (d : Dev) : (d.callRestore).pbu = d.pbu := rfl
@[simp] theorem Dev.callRestore_spc (d : Dev) : (d.callRestore).spc = d.spc := rfl
@[simp] theorem Dev.callRestore_ptc (d : Dev) : (d.callRestore).ptc = d.ptc := rfl
@[simp] theorem Dev.callRestore_lcu (d : Dev) : (d.callRestore).lcu = d.lcu := rfl
@[simp] theorem Dev.callRestore_store (d : Dev) : (d.callRestore).store = d.store := rfl
@[simp] theorem Dev.callRestore_zne (d : Dev) : (d.callRestore).zne = d.zne := rfl
@[simp] theorem Dev.callRestore_perm (d : Dev) : (d.callRestore).perm = d.perm := rfl
@[simp] theorem Dev.callRestore_edu (d : Dev) : (d.callRestore).edu = d.edu := rfl
@[simp] theorem Dev.callRestore_wtb (d : Dev) : (d.callRestore).wtb = d.wtb := rfl
@[simp] theorem Dev.callRestore_atc (d : Dev) : (d.callRestore).atc = d.atc := rfl
@[simp] theorem Dev.callRestore_mli (d : Dev) : (d.callRestore).mli = d.mli := rfl
@[simp] theorem Dev.callRestore_msa (d : Dev) : (d.callRestore).msa = d.msa := rfl
@[simp] theorem Dev.callRestore_causes (d : Dev) : (d.callRestore).causes = d.causes := rfl
@[simp] theorem Dev.callRestore_hold (d : Dev) : (d.callRestore).hold = d.hold := rfl

@[simp] theorem Dev.callEdu_now (d : Dev) : (d.callEdu).now = d.now := rfl
@[simp] theorem Dev.callEdu_lines (d : Dev) : (d.callEdu).lines = d.lines := rfl
@[simp] theorem Dev.callEdu_ssu (d : Dev) : (d.callEdu).ssu = d.ssu := rfl
@[simp] theorem Dev.callEdu_clc (d : Dev) : (d.callEdu).clc = d.clc := rfl
@[simp] theorem Dev.callEdu_pbu (d : Dev) : (d.callEdu).pbu = d.pbu := rfl
@[simp] theorem Dev.callEdu_spc (d : Dev) : (d.callEdu).spc = d.spc := rfl
@[simp] theorem Dev.callEdu_ptc (d : Dev) : (d.callEdu).ptc = d.ptc := rfl
@[simp] theorem Dev.callEdu_lcu (d : Dev) : (d.callEdu).lcu = d.lcu := rfl
@[simp] theorem Dev.callEdu_store (d : Dev) : (d.callEdu).store = d.store := rfl
@[simp] theorem Dev.callEdu_zne (d : Dev) : (d.callEdu).zne = d.zne := rfl
@[simp] theorem Dev.callEdu_perm (d : Dev) : (d.callEdu).perm = d.perm := rfl
@[simp] theorem Dev.callEdu_edu (d : Dev) : (d.callEdu).edu = d.edu := rfl
@[simp] theorem Dev.callEdu_wtb (d : Dev) : (d.callEdu).wtb = d.wtb := rfl
@[simp] theorem Dev.callEdu_atc (d : Dev) : (d.callEdu).atc = d.atc := rfl
@[simp] theorem Dev.callEdu_mli (d : Dev) : (d.callEdu).mli = d.mli := rfl
@[simp] theorem Dev.callEdu_msa (d : Dev) : (d.callEdu).msa = d.msa := rfl
@[simp] theorem Dev.callEdu_causes (d : Dev) : (d.callEdu).causes = d.causes := rfl
@[simp] theorem Dev.callEdu_hold (d : Dev) : (d.callEdu).hold = d.hold := rfl

@[simp] theorem Dev.callJudge_now (d : Dev) : (d.callJudge).now = d.now := rfl
@[simp] theorem Dev.callJudge_lines (d : Dev) : (d.callJudge).lines = d.lines := rfl
@[simp] theorem Dev.callJudge_ssu (d : Dev) : (d.callJudge).ssu = d.ssu := rfl
@[simp] theorem Dev.callJudge_clc (d : Dev) : (d.callJudge).clc = d.clc := rfl
@[simp] theorem Dev.callJudge_pbu (d : Dev) : (d.callJudge).pbu = d.pbu := rfl
@[simp] theorem Dev.callJudge_spc (d : Dev) : (d.callJudge).spc = d.spc := rfl
@[simp] theorem Dev.callJudge_ptc (d : Dev) : (d.callJudge).ptc = d.ptc := rfl
@[simp] theorem Dev.callJudge_lcu (d : Dev) : (d.callJudge).lcu = d.lcu := rfl
@[simp] theorem Dev.callJudge_store (d : Dev) : (d.callJudge).store = d.store := rfl
@[simp] theorem Dev.callJudge_zne (d : Dev) : (d.callJudge).zne = d.zne := rfl
@[simp] theorem Dev.callJudge_perm (d : Dev) : (d.callJudge).perm = d.perm := rfl
@[simp] theorem Dev.callJudge_edu (d : Dev) : (d.callJudge).edu = d.edu := rfl
@[simp] theorem Dev.callJudge_wtb (d : Dev) : (d.callJudge).wtb = d.wtb := rfl
@[simp] theorem Dev.callJudge_atc (d : Dev) : (d.callJudge).atc = d.atc := rfl
@[simp] theorem Dev.callJudge_mli (d : Dev) : (d.callJudge).mli = d.mli := rfl
@[simp] theorem Dev.callJudge_msa (d : Dev) : (d.callJudge).msa = d.msa := rfl
@[simp] theorem Dev.callJudge_causes (d : Dev) : (d.callJudge).causes = d.causes := rfl
@[simp] theorem Dev.callJudge_hold (d : Dev) : (d.callJudge).hold = d.hold := rfl

@[simp] theorem Dev.callReclaim_now (y : Tier) (d : Dev) : (d.callReclaim y).now = d.now := by cases y <;> rfl
@[simp] theorem Dev.callReclaim_lines (y : Tier) (d : Dev) : (d.callReclaim y).lines = d.lines := by cases y <;> rfl
@[simp] theorem Dev.callReclaim_ssu (y : Tier) (d : Dev) : (d.callReclaim y).ssu = d.ssu := by cases y <;> rfl
@[simp] theorem Dev.callReclaim_clc (y : Tier) (d : Dev) : (d.callReclaim y).clc = d.clc := by cases y <;> rfl
@[simp] theorem Dev.callReclaim_pbu (y : Tier) (d : Dev) : (d.callReclaim y).pbu = d.pbu := by cases y <;> rfl
@[simp] theorem Dev.callReclaim_spc (y : Tier) (d : Dev) : (d.callReclaim y).spc = d.spc := by cases y <;> rfl
@[simp] theorem Dev.callReclaim_ptc (y : Tier) (d : Dev) : (d.callReclaim y).ptc = d.ptc := by cases y <;> rfl
@[simp] theorem Dev.callReclaim_lcu (y : Tier) (d : Dev) : (d.callReclaim y).lcu = d.lcu := by cases y <;> rfl
@[simp] theorem Dev.callReclaim_store (y : Tier) (d : Dev) : (d.callReclaim y).store = d.store := by cases y <;> rfl
@[simp] theorem Dev.callReclaim_zne (y : Tier) (d : Dev) : (d.callReclaim y).zne = d.zne := by cases y <;> rfl
@[simp] theorem Dev.callReclaim_perm (y : Tier) (d : Dev) : (d.callReclaim y).perm = d.perm := by cases y <;> rfl
@[simp] theorem Dev.callReclaim_edu (y : Tier) (d : Dev) : (d.callReclaim y).edu = d.edu := by cases y <;> rfl
@[simp] theorem Dev.callReclaim_wtb (y : Tier) (d : Dev) : (d.callReclaim y).wtb = d.wtb := by cases y <;> rfl
@[simp] theorem Dev.callReclaim_atc (y : Tier) (d : Dev) : (d.callReclaim y).atc = d.atc := by cases y <;> rfl
@[simp] theorem Dev.callReclaim_mli (y : Tier) (d : Dev) : (d.callReclaim y).mli = d.mli := by cases y <;> rfl
@[simp] theorem Dev.callReclaim_msa (y : Tier) (d : Dev) : (d.callReclaim y).msa = d.msa := by cases y <;> rfl
@[simp] theorem Dev.callReclaim_causes (y : Tier) (d : Dev) : (d.callReclaim y).causes = d.causes := by cases y <;> rfl
@[simp] theorem Dev.callReclaim_hold (y : Tier) (d : Dev) : (d.callReclaim y).hold = d.hold := by cases y <;> rfl

/-! ## The store, the zones and the watches -/

@[simp] theorem Dev.startSave_now (d : Dev) : (d.startSave).now = d.now := rfl
@[simp] theorem Dev.startSave_lines (d : Dev) : (d.startSave).lines = d.lines := rfl
@[simp] theorem Dev.startSave_ssu (d : Dev) : (d.startSave).ssu = d.ssu := rfl
@[simp] theorem Dev.startSave_clc (d : Dev) : (d.startSave).clc = d.clc := rfl
@[simp] theorem Dev.startSave_pbu (d : Dev) : (d.startSave).pbu = d.pbu := rfl
@[simp] theorem Dev.startSave_spc (d : Dev) : (d.startSave).spc = d.spc := rfl
@[simp] theorem Dev.startSave_ptc (d : Dev) : (d.startSave).ptc = d.ptc := rfl
@[simp] theorem Dev.startSave_store (d : Dev) : (d.startSave).store = d.store := rfl
@[simp] theorem Dev.startSave_zne (d : Dev) : (d.startSave).zne = d.zne := rfl
@[simp] theorem Dev.startSave_perm (d : Dev) : (d.startSave).perm = d.perm := rfl
@[simp] theorem Dev.startSave_edu (d : Dev) : (d.startSave).edu = d.edu := rfl
@[simp] theorem Dev.startSave_wtb (d : Dev) : (d.startSave).wtb = d.wtb := rfl
@[simp] theorem Dev.startSave_atc (d : Dev) : (d.startSave).atc = d.atc := rfl
@[simp] theorem Dev.startSave_mli (d : Dev) : (d.startSave).mli = d.mli := rfl
@[simp] theorem Dev.startSave_msa (d : Dev) : (d.startSave).msa = d.msa := rfl
@[simp] theorem Dev.startSave_causes (d : Dev) : (d.startSave).causes = d.causes := rfl
@[simp] theorem Dev.startSave_hold (d : Dev) : (d.startSave).hold = d.hold := rfl
@[simp] theorem Dev.startSave_work (d : Dev) : (d.startSave).work = d.work := rfl

@[simp] theorem Dev.setCert_now (i : Fin 16) (e : Option CertEntry) (d : Dev) : (d.setCert i e).now = d.now := rfl
@[simp] theorem Dev.setCert_lines (i : Fin 16) (e : Option CertEntry) (d : Dev) : (d.setCert i e).lines = d.lines := rfl
@[simp] theorem Dev.setCert_ssu (i : Fin 16) (e : Option CertEntry) (d : Dev) : (d.setCert i e).ssu = d.ssu := rfl
@[simp] theorem Dev.setCert_clc (i : Fin 16) (e : Option CertEntry) (d : Dev) : (d.setCert i e).clc = d.clc := rfl
@[simp] theorem Dev.setCert_pbu (i : Fin 16) (e : Option CertEntry) (d : Dev) : (d.setCert i e).pbu = d.pbu := rfl
@[simp] theorem Dev.setCert_spc (i : Fin 16) (e : Option CertEntry) (d : Dev) : (d.setCert i e).spc = d.spc := rfl
@[simp] theorem Dev.setCert_ptc (i : Fin 16) (e : Option CertEntry) (d : Dev) : (d.setCert i e).ptc = d.ptc := rfl
@[simp] theorem Dev.setCert_store (i : Fin 16) (e : Option CertEntry) (d : Dev) : (d.setCert i e).store = d.store := rfl
@[simp] theorem Dev.setCert_zne (i : Fin 16) (e : Option CertEntry) (d : Dev) : (d.setCert i e).zne = d.zne := rfl
@[simp] theorem Dev.setCert_perm (i : Fin 16) (e : Option CertEntry) (d : Dev) : (d.setCert i e).perm = d.perm := rfl
@[simp] theorem Dev.setCert_edu (i : Fin 16) (e : Option CertEntry) (d : Dev) : (d.setCert i e).edu = d.edu := rfl
@[simp] theorem Dev.setCert_wtb (i : Fin 16) (e : Option CertEntry) (d : Dev) : (d.setCert i e).wtb = d.wtb := rfl
@[simp] theorem Dev.setCert_atc (i : Fin 16) (e : Option CertEntry) (d : Dev) : (d.setCert i e).atc = d.atc := rfl
@[simp] theorem Dev.setCert_mli (i : Fin 16) (e : Option CertEntry) (d : Dev) : (d.setCert i e).mli = d.mli := rfl
@[simp] theorem Dev.setCert_msa (i : Fin 16) (e : Option CertEntry) (d : Dev) : (d.setCert i e).msa = d.msa := rfl
@[simp] theorem Dev.setCert_causes (i : Fin 16) (e : Option CertEntry) (d : Dev) : (d.setCert i e).causes = d.causes := rfl
@[simp] theorem Dev.setCert_hold (i : Fin 16) (e : Option CertEntry) (d : Dev) : (d.setCert i e).hold = d.hold := rfl
@[simp] theorem Dev.setCert_work (i : Fin 16) (e : Option CertEntry) (d : Dev) : (d.setCert i e).work = d.work := rfl

@[simp] theorem Dev.startWrite_now (o : StoreOp) (d : Dev) : (d.startWrite o).now = d.now := rfl
@[simp] theorem Dev.startWrite_lines (o : StoreOp) (d : Dev) : (d.startWrite o).lines = d.lines := rfl
@[simp] theorem Dev.startWrite_ssu (o : StoreOp) (d : Dev) : (d.startWrite o).ssu = d.ssu := rfl
@[simp] theorem Dev.startWrite_clc (o : StoreOp) (d : Dev) : (d.startWrite o).clc = d.clc := rfl
@[simp] theorem Dev.startWrite_pbu (o : StoreOp) (d : Dev) : (d.startWrite o).pbu = d.pbu := rfl
@[simp] theorem Dev.startWrite_spc (o : StoreOp) (d : Dev) : (d.startWrite o).spc = d.spc := rfl
@[simp] theorem Dev.startWrite_ptc (o : StoreOp) (d : Dev) : (d.startWrite o).ptc = d.ptc := rfl
@[simp] theorem Dev.startWrite_store (o : StoreOp) (d : Dev) : (d.startWrite o).store = d.store := rfl
@[simp] theorem Dev.startWrite_zne (o : StoreOp) (d : Dev) : (d.startWrite o).zne = d.zne := rfl
@[simp] theorem Dev.startWrite_perm (o : StoreOp) (d : Dev) : (d.startWrite o).perm = d.perm := rfl
@[simp] theorem Dev.startWrite_edu (o : StoreOp) (d : Dev) : (d.startWrite o).edu = d.edu := rfl
@[simp] theorem Dev.startWrite_wtb (o : StoreOp) (d : Dev) : (d.startWrite o).wtb = d.wtb := rfl
@[simp] theorem Dev.startWrite_atc (o : StoreOp) (d : Dev) : (d.startWrite o).atc = d.atc := rfl
@[simp] theorem Dev.startWrite_mli (o : StoreOp) (d : Dev) : (d.startWrite o).mli = d.mli := rfl
@[simp] theorem Dev.startWrite_msa (o : StoreOp) (d : Dev) : (d.startWrite o).msa = d.msa := rfl
@[simp] theorem Dev.startWrite_causes (o : StoreOp) (d : Dev) : (d.startWrite o).causes = d.causes := rfl
@[simp] theorem Dev.startWrite_hold (o : StoreOp) (d : Dev) : (d.startWrite o).hold = d.hold := rfl
@[simp] theorem Dev.startWrite_work (o : StoreOp) (d : Dev) : (d.startWrite o).work = d.work := rfl

@[simp] theorem Dev.retotal_now (d : Dev) : (d.retotal).now = d.now := by simp [Dev.retotal]
@[simp] theorem Dev.retotal_lines (d : Dev) : (d.retotal).lines = d.lines := by simp [Dev.retotal]
@[simp] theorem Dev.retotal_ssu (d : Dev) : (d.retotal).ssu = d.ssu := by simp [Dev.retotal]
@[simp] theorem Dev.retotal_clc (d : Dev) : (d.retotal).clc = d.clc := by simp [Dev.retotal]
@[simp] theorem Dev.retotal_pbu (d : Dev) : (d.retotal).pbu = d.pbu := by simp [Dev.retotal]
@[simp] theorem Dev.retotal_spc (d : Dev) : (d.retotal).spc = d.spc := by simp [Dev.retotal]
@[simp] theorem Dev.retotal_ptc (d : Dev) : (d.retotal).ptc = d.ptc := by simp [Dev.retotal]
@[simp] theorem Dev.retotal_store (d : Dev) : (d.retotal).store = d.store := by simp [Dev.retotal]
@[simp] theorem Dev.retotal_zne (d : Dev) : (d.retotal).zne = d.zne := by simp [Dev.retotal]
@[simp] theorem Dev.retotal_perm (d : Dev) : (d.retotal).perm = d.perm := by simp [Dev.retotal]
@[simp] theorem Dev.retotal_edu (d : Dev) : (d.retotal).edu = d.edu := by simp [Dev.retotal]
@[simp] theorem Dev.retotal_wtb (d : Dev) : (d.retotal).wtb = d.wtb := by simp [Dev.retotal]
@[simp] theorem Dev.retotal_atc (d : Dev) : (d.retotal).atc = d.atc := by simp [Dev.retotal]
@[simp] theorem Dev.retotal_mli (d : Dev) : (d.retotal).mli = d.mli := by simp [Dev.retotal]
@[simp] theorem Dev.retotal_msa (d : Dev) : (d.retotal).msa = d.msa := by simp [Dev.retotal]
@[simp] theorem Dev.retotal_causes (d : Dev) : (d.retotal).causes = d.causes := by simp [Dev.retotal]
@[simp] theorem Dev.retotal_hold (d : Dev) : (d.retotal).hold = d.hold := by simp [Dev.retotal]
@[simp] theorem Dev.retotal_work (d : Dev) : (d.retotal).work = d.work := by simp [Dev.retotal]

@[simp] theorem Dev.writeCert_now (i : Fin 16) (r : StoreRec) (d : Dev) : (d.writeCert i r).now = d.now := rfl
@[simp] theorem Dev.writeCert_lines (i : Fin 16) (r : StoreRec) (d : Dev) : (d.writeCert i r).lines = d.lines := rfl
@[simp] theorem Dev.writeCert_ssu (i : Fin 16) (r : StoreRec) (d : Dev) : (d.writeCert i r).ssu = d.ssu := rfl
@[simp] theorem Dev.writeCert_clc (i : Fin 16) (r : StoreRec) (d : Dev) : (d.writeCert i r).clc = d.clc := rfl
@[simp] theorem Dev.writeCert_pbu (i : Fin 16) (r : StoreRec) (d : Dev) : (d.writeCert i r).pbu = d.pbu := rfl
@[simp] theorem Dev.writeCert_spc (i : Fin 16) (r : StoreRec) (d : Dev) : (d.writeCert i r).spc = d.spc := rfl
@[simp] theorem Dev.writeCert_ptc (i : Fin 16) (r : StoreRec) (d : Dev) : (d.writeCert i r).ptc = d.ptc := rfl
@[simp] theorem Dev.writeCert_lcu (i : Fin 16) (r : StoreRec) (d : Dev) : (d.writeCert i r).lcu = d.lcu := rfl
@[simp] theorem Dev.writeCert_zne (i : Fin 16) (r : StoreRec) (d : Dev) : (d.writeCert i r).zne = d.zne := rfl
@[simp] theorem Dev.writeCert_perm (i : Fin 16) (r : StoreRec) (d : Dev) : (d.writeCert i r).perm = d.perm := rfl
@[simp] theorem Dev.writeCert_edu (i : Fin 16) (r : StoreRec) (d : Dev) : (d.writeCert i r).edu = d.edu := rfl
@[simp] theorem Dev.writeCert_wtb (i : Fin 16) (r : StoreRec) (d : Dev) : (d.writeCert i r).wtb = d.wtb := rfl
@[simp] theorem Dev.writeCert_atc (i : Fin 16) (r : StoreRec) (d : Dev) : (d.writeCert i r).atc = d.atc := rfl
@[simp] theorem Dev.writeCert_mli (i : Fin 16) (r : StoreRec) (d : Dev) : (d.writeCert i r).mli = d.mli := rfl
@[simp] theorem Dev.writeCert_msa (i : Fin 16) (r : StoreRec) (d : Dev) : (d.writeCert i r).msa = d.msa := rfl
@[simp] theorem Dev.writeCert_causes (i : Fin 16) (r : StoreRec) (d : Dev) : (d.writeCert i r).causes = d.causes := rfl
@[simp] theorem Dev.writeCert_hold (i : Fin 16) (r : StoreRec) (d : Dev) : (d.writeCert i r).hold = d.hold := rfl
@[simp] theorem Dev.writeCert_work (i : Fin 16) (r : StoreRec) (d : Dev) : (d.writeCert i r).work = d.work := rfl

@[simp] theorem Dev.writeCounter_now (n : Nat) (d : Dev) : (d.writeCounter n).now = d.now := rfl
@[simp] theorem Dev.writeCounter_lines (n : Nat) (d : Dev) : (d.writeCounter n).lines = d.lines := rfl
@[simp] theorem Dev.writeCounter_ssu (n : Nat) (d : Dev) : (d.writeCounter n).ssu = d.ssu := rfl
@[simp] theorem Dev.writeCounter_clc (n : Nat) (d : Dev) : (d.writeCounter n).clc = d.clc := rfl
@[simp] theorem Dev.writeCounter_pbu (n : Nat) (d : Dev) : (d.writeCounter n).pbu = d.pbu := rfl
@[simp] theorem Dev.writeCounter_spc (n : Nat) (d : Dev) : (d.writeCounter n).spc = d.spc := rfl
@[simp] theorem Dev.writeCounter_ptc (n : Nat) (d : Dev) : (d.writeCounter n).ptc = d.ptc := rfl
@[simp] theorem Dev.writeCounter_lcu (n : Nat) (d : Dev) : (d.writeCounter n).lcu = d.lcu := rfl
@[simp] theorem Dev.writeCounter_zne (n : Nat) (d : Dev) : (d.writeCounter n).zne = d.zne := rfl
@[simp] theorem Dev.writeCounter_perm (n : Nat) (d : Dev) : (d.writeCounter n).perm = d.perm := rfl
@[simp] theorem Dev.writeCounter_edu (n : Nat) (d : Dev) : (d.writeCounter n).edu = d.edu := rfl
@[simp] theorem Dev.writeCounter_wtb (n : Nat) (d : Dev) : (d.writeCounter n).wtb = d.wtb := rfl
@[simp] theorem Dev.writeCounter_atc (n : Nat) (d : Dev) : (d.writeCounter n).atc = d.atc := rfl
@[simp] theorem Dev.writeCounter_mli (n : Nat) (d : Dev) : (d.writeCounter n).mli = d.mli := rfl
@[simp] theorem Dev.writeCounter_msa (n : Nat) (d : Dev) : (d.writeCounter n).msa = d.msa := rfl
@[simp] theorem Dev.writeCounter_causes (n : Nat) (d : Dev) : (d.writeCounter n).causes = d.causes := rfl
@[simp] theorem Dev.writeCounter_hold (n : Nat) (d : Dev) : (d.writeCounter n).hold = d.hold := rfl
@[simp] theorem Dev.writeCounter_work (n : Nat) (d : Dev) : (d.writeCounter n).work = d.work := rfl

@[simp] theorem Dev.discardTransaction_now (d : Dev) : (d.discardTransaction).now = d.now := rfl
@[simp] theorem Dev.discardTransaction_lines (d : Dev) : (d.discardTransaction).lines = d.lines := rfl
@[simp] theorem Dev.discardTransaction_ssu (d : Dev) : (d.discardTransaction).ssu = d.ssu := rfl
@[simp] theorem Dev.discardTransaction_clc (d : Dev) : (d.discardTransaction).clc = d.clc := rfl
@[simp] theorem Dev.discardTransaction_pbu (d : Dev) : (d.discardTransaction).pbu = d.pbu := rfl
@[simp] theorem Dev.discardTransaction_spc (d : Dev) : (d.discardTransaction).spc = d.spc := rfl
@[simp] theorem Dev.discardTransaction_ptc (d : Dev) : (d.discardTransaction).ptc = d.ptc := rfl
@[simp] theorem Dev.discardTransaction_lcu (d : Dev) : (d.discardTransaction).lcu = d.lcu := rfl
@[simp] theorem Dev.discardTransaction_store (d : Dev) : (d.discardTransaction).store = d.store := rfl
@[simp] theorem Dev.discardTransaction_perm (d : Dev) : (d.discardTransaction).perm = d.perm := rfl
@[simp] theorem Dev.discardTransaction_edu (d : Dev) : (d.discardTransaction).edu = d.edu := rfl
@[simp] theorem Dev.discardTransaction_wtb (d : Dev) : (d.discardTransaction).wtb = d.wtb := rfl
@[simp] theorem Dev.discardTransaction_atc (d : Dev) : (d.discardTransaction).atc = d.atc := rfl
@[simp] theorem Dev.discardTransaction_mli (d : Dev) : (d.discardTransaction).mli = d.mli := rfl
@[simp] theorem Dev.discardTransaction_msa (d : Dev) : (d.discardTransaction).msa = d.msa := rfl
@[simp] theorem Dev.discardTransaction_causes (d : Dev) : (d.discardTransaction).causes = d.causes := rfl
@[simp] theorem Dev.discardTransaction_hold (d : Dev) : (d.discardTransaction).hold = d.hold := rfl
@[simp] theorem Dev.discardTransaction_work (d : Dev) : (d.discardTransaction).work = d.work := rfl

@[simp] theorem Dev.dropAssembly_now (d : Dev) : (d.dropAssembly).now = d.now := rfl
@[simp] theorem Dev.dropAssembly_lines (d : Dev) : (d.dropAssembly).lines = d.lines := rfl
@[simp] theorem Dev.dropAssembly_ssu (d : Dev) : (d.dropAssembly).ssu = d.ssu := rfl
@[simp] theorem Dev.dropAssembly_clc (d : Dev) : (d.dropAssembly).clc = d.clc := rfl
@[simp] theorem Dev.dropAssembly_pbu (d : Dev) : (d.dropAssembly).pbu = d.pbu := rfl
@[simp] theorem Dev.dropAssembly_spc (d : Dev) : (d.dropAssembly).spc = d.spc := rfl
@[simp] theorem Dev.dropAssembly_ptc (d : Dev) : (d.dropAssembly).ptc = d.ptc := rfl
@[simp] theorem Dev.dropAssembly_lcu (d : Dev) : (d.dropAssembly).lcu = d.lcu := rfl
@[simp] theorem Dev.dropAssembly_store (d : Dev) : (d.dropAssembly).store = d.store := rfl
@[simp] theorem Dev.dropAssembly_perm (d : Dev) : (d.dropAssembly).perm = d.perm := rfl
@[simp] theorem Dev.dropAssembly_edu (d : Dev) : (d.dropAssembly).edu = d.edu := rfl
@[simp] theorem Dev.dropAssembly_wtb (d : Dev) : (d.dropAssembly).wtb = d.wtb := rfl
@[simp] theorem Dev.dropAssembly_atc (d : Dev) : (d.dropAssembly).atc = d.atc := rfl
@[simp] theorem Dev.dropAssembly_mli (d : Dev) : (d.dropAssembly).mli = d.mli := rfl
@[simp] theorem Dev.dropAssembly_msa (d : Dev) : (d.dropAssembly).msa = d.msa := rfl
@[simp] theorem Dev.dropAssembly_causes (d : Dev) : (d.dropAssembly).causes = d.causes := rfl
@[simp] theorem Dev.dropAssembly_hold (d : Dev) : (d.dropAssembly).hold = d.hold := rfl
@[simp] theorem Dev.dropAssembly_work (d : Dev) : (d.dropAssembly).work = d.work := rfl

@[simp] theorem Dev.setStaged_now (x : Option Staged) (d : Dev) : (d.setStaged x).now = d.now := rfl
@[simp] theorem Dev.setStaged_lines (x : Option Staged) (d : Dev) : (d.setStaged x).lines = d.lines := rfl
@[simp] theorem Dev.setStaged_ssu (x : Option Staged) (d : Dev) : (d.setStaged x).ssu = d.ssu := rfl
@[simp] theorem Dev.setStaged_clc (x : Option Staged) (d : Dev) : (d.setStaged x).clc = d.clc := rfl
@[simp] theorem Dev.setStaged_pbu (x : Option Staged) (d : Dev) : (d.setStaged x).pbu = d.pbu := rfl
@[simp] theorem Dev.setStaged_spc (x : Option Staged) (d : Dev) : (d.setStaged x).spc = d.spc := rfl
@[simp] theorem Dev.setStaged_ptc (x : Option Staged) (d : Dev) : (d.setStaged x).ptc = d.ptc := rfl
@[simp] theorem Dev.setStaged_lcu (x : Option Staged) (d : Dev) : (d.setStaged x).lcu = d.lcu := rfl
@[simp] theorem Dev.setStaged_store (x : Option Staged) (d : Dev) : (d.setStaged x).store = d.store := rfl
@[simp] theorem Dev.setStaged_perm (x : Option Staged) (d : Dev) : (d.setStaged x).perm = d.perm := rfl
@[simp] theorem Dev.setStaged_edu (x : Option Staged) (d : Dev) : (d.setStaged x).edu = d.edu := rfl
@[simp] theorem Dev.setStaged_wtb (x : Option Staged) (d : Dev) : (d.setStaged x).wtb = d.wtb := rfl
@[simp] theorem Dev.setStaged_atc (x : Option Staged) (d : Dev) : (d.setStaged x).atc = d.atc := rfl
@[simp] theorem Dev.setStaged_mli (x : Option Staged) (d : Dev) : (d.setStaged x).mli = d.mli := rfl
@[simp] theorem Dev.setStaged_msa (x : Option Staged) (d : Dev) : (d.setStaged x).msa = d.msa := rfl
@[simp] theorem Dev.setStaged_causes (x : Option Staged) (d : Dev) : (d.setStaged x).causes = d.causes := rfl
@[simp] theorem Dev.setStaged_hold (x : Option Staged) (d : Dev) : (d.setStaged x).hold = d.hold := rfl
@[simp] theorem Dev.setStaged_work (x : Option Staged) (d : Dev) : (d.setStaged x).work = d.work := rfl

@[simp] theorem Dev.dropWatches_now (f : Watch → Bool) (d : Dev) : (d.dropWatches f).now = d.now := rfl
@[simp] theorem Dev.dropWatches_lines (f : Watch → Bool) (d : Dev) : (d.dropWatches f).lines = d.lines := rfl
@[simp] theorem Dev.dropWatches_ssu (f : Watch → Bool) (d : Dev) : (d.dropWatches f).ssu = d.ssu := rfl
@[simp] theorem Dev.dropWatches_clc (f : Watch → Bool) (d : Dev) : (d.dropWatches f).clc = d.clc := rfl
@[simp] theorem Dev.dropWatches_pbu (f : Watch → Bool) (d : Dev) : (d.dropWatches f).pbu = d.pbu := rfl
@[simp] theorem Dev.dropWatches_spc (f : Watch → Bool) (d : Dev) : (d.dropWatches f).spc = d.spc := rfl
@[simp] theorem Dev.dropWatches_ptc (f : Watch → Bool) (d : Dev) : (d.dropWatches f).ptc = d.ptc := rfl
@[simp] theorem Dev.dropWatches_lcu (f : Watch → Bool) (d : Dev) : (d.dropWatches f).lcu = d.lcu := rfl
@[simp] theorem Dev.dropWatches_store (f : Watch → Bool) (d : Dev) : (d.dropWatches f).store = d.store := rfl
@[simp] theorem Dev.dropWatches_zne (f : Watch → Bool) (d : Dev) : (d.dropWatches f).zne = d.zne := rfl
@[simp] theorem Dev.dropWatches_perm (f : Watch → Bool) (d : Dev) : (d.dropWatches f).perm = d.perm := rfl
@[simp] theorem Dev.dropWatches_edu (f : Watch → Bool) (d : Dev) : (d.dropWatches f).edu = d.edu := rfl
@[simp] theorem Dev.dropWatches_atc (f : Watch → Bool) (d : Dev) : (d.dropWatches f).atc = d.atc := rfl
@[simp] theorem Dev.dropWatches_mli (f : Watch → Bool) (d : Dev) : (d.dropWatches f).mli = d.mli := rfl
@[simp] theorem Dev.dropWatches_msa (f : Watch → Bool) (d : Dev) : (d.dropWatches f).msa = d.msa := rfl
@[simp] theorem Dev.dropWatches_causes (f : Watch → Bool) (d : Dev) : (d.dropWatches f).causes = d.causes := rfl
@[simp] theorem Dev.dropWatches_hold (f : Watch → Bool) (d : Dev) : (d.dropWatches f).hold = d.hold := rfl
@[simp] theorem Dev.dropWatches_work (f : Watch → Bool) (d : Dev) : (d.dropWatches f).work = d.work := rfl

@[simp] theorem Dev.dropLinkWatches_now (l : Link) (d : Dev) : (d.dropLinkWatches l).now = d.now := rfl
@[simp] theorem Dev.dropLinkWatches_lines (l : Link) (d : Dev) : (d.dropLinkWatches l).lines = d.lines := rfl
@[simp] theorem Dev.dropLinkWatches_ssu (l : Link) (d : Dev) : (d.dropLinkWatches l).ssu = d.ssu := rfl
@[simp] theorem Dev.dropLinkWatches_clc (l : Link) (d : Dev) : (d.dropLinkWatches l).clc = d.clc := rfl
@[simp] theorem Dev.dropLinkWatches_pbu (l : Link) (d : Dev) : (d.dropLinkWatches l).pbu = d.pbu := rfl
@[simp] theorem Dev.dropLinkWatches_spc (l : Link) (d : Dev) : (d.dropLinkWatches l).spc = d.spc := rfl
@[simp] theorem Dev.dropLinkWatches_ptc (l : Link) (d : Dev) : (d.dropLinkWatches l).ptc = d.ptc := rfl
@[simp] theorem Dev.dropLinkWatches_lcu (l : Link) (d : Dev) : (d.dropLinkWatches l).lcu = d.lcu := rfl
@[simp] theorem Dev.dropLinkWatches_store (l : Link) (d : Dev) : (d.dropLinkWatches l).store = d.store := rfl
@[simp] theorem Dev.dropLinkWatches_zne (l : Link) (d : Dev) : (d.dropLinkWatches l).zne = d.zne := rfl
@[simp] theorem Dev.dropLinkWatches_perm (l : Link) (d : Dev) : (d.dropLinkWatches l).perm = d.perm := rfl
@[simp] theorem Dev.dropLinkWatches_edu (l : Link) (d : Dev) : (d.dropLinkWatches l).edu = d.edu := rfl
@[simp] theorem Dev.dropLinkWatches_atc (l : Link) (d : Dev) : (d.dropLinkWatches l).atc = d.atc := rfl
@[simp] theorem Dev.dropLinkWatches_mli (l : Link) (d : Dev) : (d.dropLinkWatches l).mli = d.mli := rfl
@[simp] theorem Dev.dropLinkWatches_msa (l : Link) (d : Dev) : (d.dropLinkWatches l).msa = d.msa := rfl
@[simp] theorem Dev.dropLinkWatches_causes (l : Link) (d : Dev) : (d.dropLinkWatches l).causes = d.causes := rfl
@[simp] theorem Dev.dropLinkWatches_hold (l : Link) (d : Dev) : (d.dropLinkWatches l).hold = d.hold := rfl
@[simp] theorem Dev.dropLinkWatches_work (l : Link) (d : Dev) : (d.dropLinkWatches l).work = d.work := rfl

@[simp] theorem Dev.dropIds_now (l : Link) (x : List Nat) (d : Dev) : (d.dropIds l x).now = d.now := rfl
@[simp] theorem Dev.dropIds_lines (l : Link) (x : List Nat) (d : Dev) : (d.dropIds l x).lines = d.lines := rfl
@[simp] theorem Dev.dropIds_ssu (l : Link) (x : List Nat) (d : Dev) : (d.dropIds l x).ssu = d.ssu := rfl
@[simp] theorem Dev.dropIds_clc (l : Link) (x : List Nat) (d : Dev) : (d.dropIds l x).clc = d.clc := rfl
@[simp] theorem Dev.dropIds_pbu (l : Link) (x : List Nat) (d : Dev) : (d.dropIds l x).pbu = d.pbu := rfl
@[simp] theorem Dev.dropIds_spc (l : Link) (x : List Nat) (d : Dev) : (d.dropIds l x).spc = d.spc := rfl
@[simp] theorem Dev.dropIds_ptc (l : Link) (x : List Nat) (d : Dev) : (d.dropIds l x).ptc = d.ptc := rfl
@[simp] theorem Dev.dropIds_lcu (l : Link) (x : List Nat) (d : Dev) : (d.dropIds l x).lcu = d.lcu := rfl
@[simp] theorem Dev.dropIds_store (l : Link) (x : List Nat) (d : Dev) : (d.dropIds l x).store = d.store := rfl
@[simp] theorem Dev.dropIds_zne (l : Link) (x : List Nat) (d : Dev) : (d.dropIds l x).zne = d.zne := rfl
@[simp] theorem Dev.dropIds_perm (l : Link) (x : List Nat) (d : Dev) : (d.dropIds l x).perm = d.perm := rfl
@[simp] theorem Dev.dropIds_edu (l : Link) (x : List Nat) (d : Dev) : (d.dropIds l x).edu = d.edu := rfl
@[simp] theorem Dev.dropIds_atc (l : Link) (x : List Nat) (d : Dev) : (d.dropIds l x).atc = d.atc := rfl
@[simp] theorem Dev.dropIds_mli (l : Link) (x : List Nat) (d : Dev) : (d.dropIds l x).mli = d.mli := rfl
@[simp] theorem Dev.dropIds_msa (l : Link) (x : List Nat) (d : Dev) : (d.dropIds l x).msa = d.msa := rfl
@[simp] theorem Dev.dropIds_causes (l : Link) (x : List Nat) (d : Dev) : (d.dropIds l x).causes = d.causes := rfl
@[simp] theorem Dev.dropIds_hold (l : Link) (x : List Nat) (d : Dev) : (d.dropIds l x).hold = d.hold := rfl
@[simp] theorem Dev.dropIds_work (l : Link) (x : List Nat) (d : Dev) : (d.dropIds l x).work = d.work := rfl

@[simp] theorem Dev.markUnnoticed_now (d : Dev) : (d.markUnnoticed).now = d.now := rfl
@[simp] theorem Dev.markUnnoticed_lines (d : Dev) : (d.markUnnoticed).lines = d.lines := rfl
@[simp] theorem Dev.markUnnoticed_ssu (d : Dev) : (d.markUnnoticed).ssu = d.ssu := rfl
@[simp] theorem Dev.markUnnoticed_clc (d : Dev) : (d.markUnnoticed).clc = d.clc := rfl
@[simp] theorem Dev.markUnnoticed_pbu (d : Dev) : (d.markUnnoticed).pbu = d.pbu := rfl
@[simp] theorem Dev.markUnnoticed_spc (d : Dev) : (d.markUnnoticed).spc = d.spc := rfl
@[simp] theorem Dev.markUnnoticed_ptc (d : Dev) : (d.markUnnoticed).ptc = d.ptc := rfl
@[simp] theorem Dev.markUnnoticed_lcu (d : Dev) : (d.markUnnoticed).lcu = d.lcu := rfl
@[simp] theorem Dev.markUnnoticed_store (d : Dev) : (d.markUnnoticed).store = d.store := rfl
@[simp] theorem Dev.markUnnoticed_zne (d : Dev) : (d.markUnnoticed).zne = d.zne := rfl
@[simp] theorem Dev.markUnnoticed_perm (d : Dev) : (d.markUnnoticed).perm = d.perm := rfl
@[simp] theorem Dev.markUnnoticed_edu (d : Dev) : (d.markUnnoticed).edu = d.edu := rfl
@[simp] theorem Dev.markUnnoticed_wtb (d : Dev) : (d.markUnnoticed).wtb = d.wtb := rfl
@[simp] theorem Dev.markUnnoticed_mli (d : Dev) : (d.markUnnoticed).mli = d.mli := rfl
@[simp] theorem Dev.markUnnoticed_msa (d : Dev) : (d.markUnnoticed).msa = d.msa := rfl
@[simp] theorem Dev.markUnnoticed_causes (d : Dev) : (d.markUnnoticed).causes = d.causes := rfl
@[simp] theorem Dev.markUnnoticed_hold (d : Dev) : (d.markUnnoticed).hold = d.hold := rfl
@[simp] theorem Dev.markUnnoticed_work (d : Dev) : (d.markUnnoticed).work = d.work := rfl

/-! ## The lines -/

@[simp] theorem Dev.setSupplyPresence_now (b : BayNo) (v : Bool) (d : Dev) : (d.setSupplyPresence b v).now = d.now := rfl
@[simp] theorem Dev.setSupplyPresence_ssu (b : BayNo) (v : Bool) (d : Dev) : (d.setSupplyPresence b v).ssu = d.ssu := rfl
@[simp] theorem Dev.setSupplyPresence_clc (b : BayNo) (v : Bool) (d : Dev) : (d.setSupplyPresence b v).clc = d.clc := rfl
@[simp] theorem Dev.setSupplyPresence_pbu (b : BayNo) (v : Bool) (d : Dev) : (d.setSupplyPresence b v).pbu = d.pbu := rfl
@[simp] theorem Dev.setSupplyPresence_spc (b : BayNo) (v : Bool) (d : Dev) : (d.setSupplyPresence b v).spc = d.spc := rfl
@[simp] theorem Dev.setSupplyPresence_ptc (b : BayNo) (v : Bool) (d : Dev) : (d.setSupplyPresence b v).ptc = d.ptc := rfl
@[simp] theorem Dev.setSupplyPresence_lcu (b : BayNo) (v : Bool) (d : Dev) : (d.setSupplyPresence b v).lcu = d.lcu := rfl
@[simp] theorem Dev.setSupplyPresence_store (b : BayNo) (v : Bool) (d : Dev) : (d.setSupplyPresence b v).store = d.store := rfl
@[simp] theorem Dev.setSupplyPresence_zne (b : BayNo) (v : Bool) (d : Dev) : (d.setSupplyPresence b v).zne = d.zne := rfl
@[simp] theorem Dev.setSupplyPresence_perm (b : BayNo) (v : Bool) (d : Dev) : (d.setSupplyPresence b v).perm = d.perm := rfl
@[simp] theorem Dev.setSupplyPresence_edu (b : BayNo) (v : Bool) (d : Dev) : (d.setSupplyPresence b v).edu = d.edu := rfl
@[simp] theorem Dev.setSupplyPresence_wtb (b : BayNo) (v : Bool) (d : Dev) : (d.setSupplyPresence b v).wtb = d.wtb := rfl
@[simp] theorem Dev.setSupplyPresence_atc (b : BayNo) (v : Bool) (d : Dev) : (d.setSupplyPresence b v).atc = d.atc := rfl
@[simp] theorem Dev.setSupplyPresence_mli (b : BayNo) (v : Bool) (d : Dev) : (d.setSupplyPresence b v).mli = d.mli := rfl
@[simp] theorem Dev.setSupplyPresence_msa (b : BayNo) (v : Bool) (d : Dev) : (d.setSupplyPresence b v).msa = d.msa := rfl
@[simp] theorem Dev.setSupplyPresence_causes (b : BayNo) (v : Bool) (d : Dev) : (d.setSupplyPresence b v).causes = d.causes := rfl
@[simp] theorem Dev.setSupplyPresence_hold (b : BayNo) (v : Bool) (d : Dev) : (d.setSupplyPresence b v).hold = d.hold := rfl
@[simp] theorem Dev.setSupplyPresence_work (b : BayNo) (v : Bool) (d : Dev) : (d.setSupplyPresence b v).work = d.work := rfl

@[simp] theorem Dev.setSupplyPowerGood_now (b : BayNo) (v : Bool) (d : Dev) : (d.setSupplyPowerGood b v).now = d.now := rfl
@[simp] theorem Dev.setSupplyPowerGood_ssu (b : BayNo) (v : Bool) (d : Dev) : (d.setSupplyPowerGood b v).ssu = d.ssu := rfl
@[simp] theorem Dev.setSupplyPowerGood_clc (b : BayNo) (v : Bool) (d : Dev) : (d.setSupplyPowerGood b v).clc = d.clc := rfl
@[simp] theorem Dev.setSupplyPowerGood_pbu (b : BayNo) (v : Bool) (d : Dev) : (d.setSupplyPowerGood b v).pbu = d.pbu := rfl
@[simp] theorem Dev.setSupplyPowerGood_spc (b : BayNo) (v : Bool) (d : Dev) : (d.setSupplyPowerGood b v).spc = d.spc := rfl
@[simp] theorem Dev.setSupplyPowerGood_ptc (b : BayNo) (v : Bool) (d : Dev) : (d.setSupplyPowerGood b v).ptc = d.ptc := rfl
@[simp] theorem Dev.setSupplyPowerGood_lcu (b : BayNo) (v : Bool) (d : Dev) : (d.setSupplyPowerGood b v).lcu = d.lcu := rfl
@[simp] theorem Dev.setSupplyPowerGood_store (b : BayNo) (v : Bool) (d : Dev) : (d.setSupplyPowerGood b v).store = d.store := rfl
@[simp] theorem Dev.setSupplyPowerGood_zne (b : BayNo) (v : Bool) (d : Dev) : (d.setSupplyPowerGood b v).zne = d.zne := rfl
@[simp] theorem Dev.setSupplyPowerGood_perm (b : BayNo) (v : Bool) (d : Dev) : (d.setSupplyPowerGood b v).perm = d.perm := rfl
@[simp] theorem Dev.setSupplyPowerGood_edu (b : BayNo) (v : Bool) (d : Dev) : (d.setSupplyPowerGood b v).edu = d.edu := rfl
@[simp] theorem Dev.setSupplyPowerGood_wtb (b : BayNo) (v : Bool) (d : Dev) : (d.setSupplyPowerGood b v).wtb = d.wtb := rfl
@[simp] theorem Dev.setSupplyPowerGood_atc (b : BayNo) (v : Bool) (d : Dev) : (d.setSupplyPowerGood b v).atc = d.atc := rfl
@[simp] theorem Dev.setSupplyPowerGood_mli (b : BayNo) (v : Bool) (d : Dev) : (d.setSupplyPowerGood b v).mli = d.mli := rfl
@[simp] theorem Dev.setSupplyPowerGood_msa (b : BayNo) (v : Bool) (d : Dev) : (d.setSupplyPowerGood b v).msa = d.msa := rfl
@[simp] theorem Dev.setSupplyPowerGood_causes (b : BayNo) (v : Bool) (d : Dev) : (d.setSupplyPowerGood b v).causes = d.causes := rfl
@[simp] theorem Dev.setSupplyPowerGood_hold (b : BayNo) (v : Bool) (d : Dev) : (d.setSupplyPowerGood b v).hold = d.hold := rfl
@[simp] theorem Dev.setSupplyPowerGood_work (b : BayNo) (v : Bool) (d : Dev) : (d.setSupplyPowerGood b v).work = d.work := rfl

@[simp] theorem Dev.setSupplyFault_now (b : BayNo) (v : Bool) (d : Dev) : (d.setSupplyFault b v).now = d.now := rfl
@[simp] theorem Dev.setSupplyFault_ssu (b : BayNo) (v : Bool) (d : Dev) : (d.setSupplyFault b v).ssu = d.ssu := rfl
@[simp] theorem Dev.setSupplyFault_clc (b : BayNo) (v : Bool) (d : Dev) : (d.setSupplyFault b v).clc = d.clc := rfl
@[simp] theorem Dev.setSupplyFault_pbu (b : BayNo) (v : Bool) (d : Dev) : (d.setSupplyFault b v).pbu = d.pbu := rfl
@[simp] theorem Dev.setSupplyFault_spc (b : BayNo) (v : Bool) (d : Dev) : (d.setSupplyFault b v).spc = d.spc := rfl
@[simp] theorem Dev.setSupplyFault_ptc (b : BayNo) (v : Bool) (d : Dev) : (d.setSupplyFault b v).ptc = d.ptc := rfl
@[simp] theorem Dev.setSupplyFault_lcu (b : BayNo) (v : Bool) (d : Dev) : (d.setSupplyFault b v).lcu = d.lcu := rfl
@[simp] theorem Dev.setSupplyFault_store (b : BayNo) (v : Bool) (d : Dev) : (d.setSupplyFault b v).store = d.store := rfl
@[simp] theorem Dev.setSupplyFault_zne (b : BayNo) (v : Bool) (d : Dev) : (d.setSupplyFault b v).zne = d.zne := rfl
@[simp] theorem Dev.setSupplyFault_perm (b : BayNo) (v : Bool) (d : Dev) : (d.setSupplyFault b v).perm = d.perm := rfl
@[simp] theorem Dev.setSupplyFault_edu (b : BayNo) (v : Bool) (d : Dev) : (d.setSupplyFault b v).edu = d.edu := rfl
@[simp] theorem Dev.setSupplyFault_wtb (b : BayNo) (v : Bool) (d : Dev) : (d.setSupplyFault b v).wtb = d.wtb := rfl
@[simp] theorem Dev.setSupplyFault_atc (b : BayNo) (v : Bool) (d : Dev) : (d.setSupplyFault b v).atc = d.atc := rfl
@[simp] theorem Dev.setSupplyFault_mli (b : BayNo) (v : Bool) (d : Dev) : (d.setSupplyFault b v).mli = d.mli := rfl
@[simp] theorem Dev.setSupplyFault_msa (b : BayNo) (v : Bool) (d : Dev) : (d.setSupplyFault b v).msa = d.msa := rfl
@[simp] theorem Dev.setSupplyFault_causes (b : BayNo) (v : Bool) (d : Dev) : (d.setSupplyFault b v).causes = d.causes := rfl
@[simp] theorem Dev.setSupplyFault_hold (b : BayNo) (v : Bool) (d : Dev) : (d.setSupplyFault b v).hold = d.hold := rfl
@[simp] theorem Dev.setSupplyFault_work (b : BayNo) (v : Bool) (d : Dev) : (d.setSupplyFault b v).work = d.work := rfl

@[simp] theorem Dev.setSlotPresence_now (n : SlotNo) (v : Bool) (d : Dev) : (d.setSlotPresence n v).now = d.now := rfl
@[simp] theorem Dev.setSlotPresence_ssu (n : SlotNo) (v : Bool) (d : Dev) : (d.setSlotPresence n v).ssu = d.ssu := rfl
@[simp] theorem Dev.setSlotPresence_clc (n : SlotNo) (v : Bool) (d : Dev) : (d.setSlotPresence n v).clc = d.clc := rfl
@[simp] theorem Dev.setSlotPresence_pbu (n : SlotNo) (v : Bool) (d : Dev) : (d.setSlotPresence n v).pbu = d.pbu := rfl
@[simp] theorem Dev.setSlotPresence_spc (n : SlotNo) (v : Bool) (d : Dev) : (d.setSlotPresence n v).spc = d.spc := rfl
@[simp] theorem Dev.setSlotPresence_ptc (n : SlotNo) (v : Bool) (d : Dev) : (d.setSlotPresence n v).ptc = d.ptc := rfl
@[simp] theorem Dev.setSlotPresence_lcu (n : SlotNo) (v : Bool) (d : Dev) : (d.setSlotPresence n v).lcu = d.lcu := rfl
@[simp] theorem Dev.setSlotPresence_store (n : SlotNo) (v : Bool) (d : Dev) : (d.setSlotPresence n v).store = d.store := rfl
@[simp] theorem Dev.setSlotPresence_zne (n : SlotNo) (v : Bool) (d : Dev) : (d.setSlotPresence n v).zne = d.zne := rfl
@[simp] theorem Dev.setSlotPresence_perm (n : SlotNo) (v : Bool) (d : Dev) : (d.setSlotPresence n v).perm = d.perm := rfl
@[simp] theorem Dev.setSlotPresence_edu (n : SlotNo) (v : Bool) (d : Dev) : (d.setSlotPresence n v).edu = d.edu := rfl
@[simp] theorem Dev.setSlotPresence_wtb (n : SlotNo) (v : Bool) (d : Dev) : (d.setSlotPresence n v).wtb = d.wtb := rfl
@[simp] theorem Dev.setSlotPresence_atc (n : SlotNo) (v : Bool) (d : Dev) : (d.setSlotPresence n v).atc = d.atc := rfl
@[simp] theorem Dev.setSlotPresence_mli (n : SlotNo) (v : Bool) (d : Dev) : (d.setSlotPresence n v).mli = d.mli := rfl
@[simp] theorem Dev.setSlotPresence_msa (n : SlotNo) (v : Bool) (d : Dev) : (d.setSlotPresence n v).msa = d.msa := rfl
@[simp] theorem Dev.setSlotPresence_causes (n : SlotNo) (v : Bool) (d : Dev) : (d.setSlotPresence n v).causes = d.causes := rfl
@[simp] theorem Dev.setSlotPresence_hold (n : SlotNo) (v : Bool) (d : Dev) : (d.setSlotPresence n v).hold = d.hold := rfl
@[simp] theorem Dev.setSlotPresence_work (n : SlotNo) (v : Bool) (d : Dev) : (d.setSlotPresence n v).work = d.work := rfl

@[simp] theorem Dev.setSlotPowerGood_now (n : SlotNo) (v : Bool) (d : Dev) : (d.setSlotPowerGood n v).now = d.now := rfl
@[simp] theorem Dev.setSlotPowerGood_ssu (n : SlotNo) (v : Bool) (d : Dev) : (d.setSlotPowerGood n v).ssu = d.ssu := rfl
@[simp] theorem Dev.setSlotPowerGood_clc (n : SlotNo) (v : Bool) (d : Dev) : (d.setSlotPowerGood n v).clc = d.clc := rfl
@[simp] theorem Dev.setSlotPowerGood_pbu (n : SlotNo) (v : Bool) (d : Dev) : (d.setSlotPowerGood n v).pbu = d.pbu := rfl
@[simp] theorem Dev.setSlotPowerGood_spc (n : SlotNo) (v : Bool) (d : Dev) : (d.setSlotPowerGood n v).spc = d.spc := rfl
@[simp] theorem Dev.setSlotPowerGood_ptc (n : SlotNo) (v : Bool) (d : Dev) : (d.setSlotPowerGood n v).ptc = d.ptc := rfl
@[simp] theorem Dev.setSlotPowerGood_lcu (n : SlotNo) (v : Bool) (d : Dev) : (d.setSlotPowerGood n v).lcu = d.lcu := rfl
@[simp] theorem Dev.setSlotPowerGood_store (n : SlotNo) (v : Bool) (d : Dev) : (d.setSlotPowerGood n v).store = d.store := rfl
@[simp] theorem Dev.setSlotPowerGood_zne (n : SlotNo) (v : Bool) (d : Dev) : (d.setSlotPowerGood n v).zne = d.zne := rfl
@[simp] theorem Dev.setSlotPowerGood_perm (n : SlotNo) (v : Bool) (d : Dev) : (d.setSlotPowerGood n v).perm = d.perm := rfl
@[simp] theorem Dev.setSlotPowerGood_edu (n : SlotNo) (v : Bool) (d : Dev) : (d.setSlotPowerGood n v).edu = d.edu := rfl
@[simp] theorem Dev.setSlotPowerGood_wtb (n : SlotNo) (v : Bool) (d : Dev) : (d.setSlotPowerGood n v).wtb = d.wtb := rfl
@[simp] theorem Dev.setSlotPowerGood_atc (n : SlotNo) (v : Bool) (d : Dev) : (d.setSlotPowerGood n v).atc = d.atc := rfl
@[simp] theorem Dev.setSlotPowerGood_mli (n : SlotNo) (v : Bool) (d : Dev) : (d.setSlotPowerGood n v).mli = d.mli := rfl
@[simp] theorem Dev.setSlotPowerGood_msa (n : SlotNo) (v : Bool) (d : Dev) : (d.setSlotPowerGood n v).msa = d.msa := rfl
@[simp] theorem Dev.setSlotPowerGood_causes (n : SlotNo) (v : Bool) (d : Dev) : (d.setSlotPowerGood n v).causes = d.causes := rfl
@[simp] theorem Dev.setSlotPowerGood_hold (n : SlotNo) (v : Bool) (d : Dev) : (d.setSlotPowerGood n v).hold = d.hold := rfl
@[simp] theorem Dev.setSlotPowerGood_work (n : SlotNo) (v : Bool) (d : Dev) : (d.setSlotPowerGood n v).work = d.work := rfl

@[simp] theorem Dev.setHotSwap_now (n : SlotNo) (v : Bool) (d : Dev) : (d.setHotSwap n v).now = d.now := rfl
@[simp] theorem Dev.setHotSwap_ssu (n : SlotNo) (v : Bool) (d : Dev) : (d.setHotSwap n v).ssu = d.ssu := rfl
@[simp] theorem Dev.setHotSwap_clc (n : SlotNo) (v : Bool) (d : Dev) : (d.setHotSwap n v).clc = d.clc := rfl
@[simp] theorem Dev.setHotSwap_pbu (n : SlotNo) (v : Bool) (d : Dev) : (d.setHotSwap n v).pbu = d.pbu := rfl
@[simp] theorem Dev.setHotSwap_spc (n : SlotNo) (v : Bool) (d : Dev) : (d.setHotSwap n v).spc = d.spc := rfl
@[simp] theorem Dev.setHotSwap_ptc (n : SlotNo) (v : Bool) (d : Dev) : (d.setHotSwap n v).ptc = d.ptc := rfl
@[simp] theorem Dev.setHotSwap_lcu (n : SlotNo) (v : Bool) (d : Dev) : (d.setHotSwap n v).lcu = d.lcu := rfl
@[simp] theorem Dev.setHotSwap_store (n : SlotNo) (v : Bool) (d : Dev) : (d.setHotSwap n v).store = d.store := rfl
@[simp] theorem Dev.setHotSwap_zne (n : SlotNo) (v : Bool) (d : Dev) : (d.setHotSwap n v).zne = d.zne := rfl
@[simp] theorem Dev.setHotSwap_perm (n : SlotNo) (v : Bool) (d : Dev) : (d.setHotSwap n v).perm = d.perm := rfl
@[simp] theorem Dev.setHotSwap_edu (n : SlotNo) (v : Bool) (d : Dev) : (d.setHotSwap n v).edu = d.edu := rfl
@[simp] theorem Dev.setHotSwap_wtb (n : SlotNo) (v : Bool) (d : Dev) : (d.setHotSwap n v).wtb = d.wtb := rfl
@[simp] theorem Dev.setHotSwap_atc (n : SlotNo) (v : Bool) (d : Dev) : (d.setHotSwap n v).atc = d.atc := rfl
@[simp] theorem Dev.setHotSwap_mli (n : SlotNo) (v : Bool) (d : Dev) : (d.setHotSwap n v).mli = d.mli := rfl
@[simp] theorem Dev.setHotSwap_msa (n : SlotNo) (v : Bool) (d : Dev) : (d.setHotSwap n v).msa = d.msa := rfl
@[simp] theorem Dev.setHotSwap_causes (n : SlotNo) (v : Bool) (d : Dev) : (d.setHotSwap n v).causes = d.causes := rfl
@[simp] theorem Dev.setHotSwap_hold (n : SlotNo) (v : Bool) (d : Dev) : (d.setHotSwap n v).hold = d.hold := rfl
@[simp] theorem Dev.setHotSwap_work (n : SlotNo) (v : Bool) (d : Dev) : (d.setHotSwap n v).work = d.work := rfl

@[simp] theorem Dev.setTrayLine_now (i : Fin 3) (v : Bool) (d : Dev) : (d.setTrayLine i v).now = d.now := rfl
@[simp] theorem Dev.setTrayLine_ssu (i : Fin 3) (v : Bool) (d : Dev) : (d.setTrayLine i v).ssu = d.ssu := rfl
@[simp] theorem Dev.setTrayLine_clc (i : Fin 3) (v : Bool) (d : Dev) : (d.setTrayLine i v).clc = d.clc := rfl
@[simp] theorem Dev.setTrayLine_pbu (i : Fin 3) (v : Bool) (d : Dev) : (d.setTrayLine i v).pbu = d.pbu := rfl
@[simp] theorem Dev.setTrayLine_spc (i : Fin 3) (v : Bool) (d : Dev) : (d.setTrayLine i v).spc = d.spc := rfl
@[simp] theorem Dev.setTrayLine_ptc (i : Fin 3) (v : Bool) (d : Dev) : (d.setTrayLine i v).ptc = d.ptc := rfl
@[simp] theorem Dev.setTrayLine_lcu (i : Fin 3) (v : Bool) (d : Dev) : (d.setTrayLine i v).lcu = d.lcu := rfl
@[simp] theorem Dev.setTrayLine_store (i : Fin 3) (v : Bool) (d : Dev) : (d.setTrayLine i v).store = d.store := rfl
@[simp] theorem Dev.setTrayLine_zne (i : Fin 3) (v : Bool) (d : Dev) : (d.setTrayLine i v).zne = d.zne := rfl
@[simp] theorem Dev.setTrayLine_perm (i : Fin 3) (v : Bool) (d : Dev) : (d.setTrayLine i v).perm = d.perm := rfl
@[simp] theorem Dev.setTrayLine_edu (i : Fin 3) (v : Bool) (d : Dev) : (d.setTrayLine i v).edu = d.edu := rfl
@[simp] theorem Dev.setTrayLine_wtb (i : Fin 3) (v : Bool) (d : Dev) : (d.setTrayLine i v).wtb = d.wtb := rfl
@[simp] theorem Dev.setTrayLine_atc (i : Fin 3) (v : Bool) (d : Dev) : (d.setTrayLine i v).atc = d.atc := rfl
@[simp] theorem Dev.setTrayLine_mli (i : Fin 3) (v : Bool) (d : Dev) : (d.setTrayLine i v).mli = d.mli := rfl
@[simp] theorem Dev.setTrayLine_msa (i : Fin 3) (v : Bool) (d : Dev) : (d.setTrayLine i v).msa = d.msa := rfl
@[simp] theorem Dev.setTrayLine_causes (i : Fin 3) (v : Bool) (d : Dev) : (d.setTrayLine i v).causes = d.causes := rfl
@[simp] theorem Dev.setTrayLine_hold (i : Fin 3) (v : Bool) (d : Dev) : (d.setTrayLine i v).hold = d.hold := rfl
@[simp] theorem Dev.setTrayLine_work (i : Fin 3) (v : Bool) (d : Dev) : (d.setTrayLine i v).work = d.work := rfl

@[simp] theorem Dev.setLineLow_now (l : Link) (v : Bool) (d : Dev) : (d.setLineLow l v).now = d.now := by cases l <;> rfl
@[simp] theorem Dev.setLineLow_ssu (l : Link) (v : Bool) (d : Dev) : (d.setLineLow l v).ssu = d.ssu := by cases l <;> rfl
@[simp] theorem Dev.setLineLow_clc (l : Link) (v : Bool) (d : Dev) : (d.setLineLow l v).clc = d.clc := by cases l <;> rfl
@[simp] theorem Dev.setLineLow_pbu (l : Link) (v : Bool) (d : Dev) : (d.setLineLow l v).pbu = d.pbu := by cases l <;> rfl
@[simp] theorem Dev.setLineLow_spc (l : Link) (v : Bool) (d : Dev) : (d.setLineLow l v).spc = d.spc := by cases l <;> rfl
@[simp] theorem Dev.setLineLow_ptc (l : Link) (v : Bool) (d : Dev) : (d.setLineLow l v).ptc = d.ptc := by cases l <;> rfl
@[simp] theorem Dev.setLineLow_lcu (l : Link) (v : Bool) (d : Dev) : (d.setLineLow l v).lcu = d.lcu := by cases l <;> rfl
@[simp] theorem Dev.setLineLow_store (l : Link) (v : Bool) (d : Dev) : (d.setLineLow l v).store = d.store := by cases l <;> rfl
@[simp] theorem Dev.setLineLow_zne (l : Link) (v : Bool) (d : Dev) : (d.setLineLow l v).zne = d.zne := by cases l <;> rfl
@[simp] theorem Dev.setLineLow_perm (l : Link) (v : Bool) (d : Dev) : (d.setLineLow l v).perm = d.perm := by cases l <;> rfl
@[simp] theorem Dev.setLineLow_edu (l : Link) (v : Bool) (d : Dev) : (d.setLineLow l v).edu = d.edu := by cases l <;> rfl
@[simp] theorem Dev.setLineLow_wtb (l : Link) (v : Bool) (d : Dev) : (d.setLineLow l v).wtb = d.wtb := by cases l <;> rfl
@[simp] theorem Dev.setLineLow_atc (l : Link) (v : Bool) (d : Dev) : (d.setLineLow l v).atc = d.atc := by cases l <;> rfl
@[simp] theorem Dev.setLineLow_mli (l : Link) (v : Bool) (d : Dev) : (d.setLineLow l v).mli = d.mli := by cases l <;> rfl
@[simp] theorem Dev.setLineLow_msa (l : Link) (v : Bool) (d : Dev) : (d.setLineLow l v).msa = d.msa := by cases l <;> rfl
@[simp] theorem Dev.setLineLow_causes (l : Link) (v : Bool) (d : Dev) : (d.setLineLow l v).causes = d.causes := by cases l <;> rfl
@[simp] theorem Dev.setLineLow_hold (l : Link) (v : Bool) (d : Dev) : (d.setLineLow l v).hold = d.hold := by cases l <;> rfl
@[simp] theorem Dev.setLineLow_work (l : Link) (v : Bool) (d : Dev) : (d.setLineLow l v).work = d.work := by cases l <;> rfl

/-! ## Tables read back -/

@[simp] theorem modAt_get {α : Type} {n : Nat} (v : Vector α n) (i : Fin n) (f : α → α) : (modAt v i f)[i.val] = f v[i.val] := by
  simp [modAt]

@[simp] theorem modAt_get_ne {α : Type} {n : Nat} (v : Vector α n) (i j : Fin n) (f : α → α) (h : j ≠ i) :
    (modAt v i f)[j.val] = v[j.val] := by
  have h' : i.val ≠ j.val := fun e => h (Fin.ext e.symm)
  simp [modAt, h']

/-- Entry `j` after entry `i` changed. -/
theorem modAt_get_ite {α : Type} {n : Nat} (v : Vector α n) (i j : Fin n) (f : α → α) :
    (modAt v i f)[j.val] = if j = i then f v[j.val] else v[j.val] := by
  by_cases h : j = i
  · subst h; simp
  · simp [h]

theorem Dev.port_modPort (i j : PortNo) (f : PortRec → PortRec) (d : Dev) :
    (d.modPort i f).port j = if j = i then f (d.port j) else d.port j := modAt_get_ite _ _ _ _

@[simp] theorem Dev.port_modPort_same (i : PortNo) (f : PortRec → PortRec) (d : Dev) : (d.modPort i f).port i = f (d.port i) := by
  simp [Dev.port_modPort]

@[simp] theorem Dev.port_modPort_ne (i j : PortNo) (h : j ≠ i) (f : PortRec → PortRec) (d : Dev) :
    (d.modPort i f).port j = d.port j := by simp [Dev.port_modPort, h]

theorem Dev.slot_modSlot (i j : SlotNo) (f : SlotRec → SlotRec) (d : Dev) :
    (d.modSlot i f).slot j = if j = i then f (d.slot j) else d.slot j := modAt_get_ite _ _ _ _

@[simp] theorem Dev.slot_modSlot_same (i : SlotNo) (f : SlotRec → SlotRec) (d : Dev) : (d.modSlot i f).slot i = f (d.slot i) := by
  simp [Dev.slot_modSlot]

@[simp] theorem Dev.slot_modSlot_ne (i j : SlotNo) (h : j ≠ i) (f : SlotRec → SlotRec) (d : Dev) :
    (d.modSlot i f).slot j = d.slot j := by simp [Dev.slot_modSlot, h]

theorem Dev.supply_modSupply (i j : BayNo) (f : SupplyRec → SupplyRec) (d : Dev) :
    (d.modSupply i f).supply j = if j = i then f (d.supply j) else d.supply j := modAt_get_ite _ _ _ _

@[simp] theorem Dev.supply_modSupply_same (i : BayNo) (f : SupplyRec → SupplyRec) (d : Dev) : (d.modSupply i f).supply i = f (d.supply i) := by
  simp [Dev.supply_modSupply]

@[simp] theorem Dev.supply_modSupply_ne (i j : BayNo) (h : j ≠ i) (f : SupplyRec → SupplyRec) (d : Dev) :
    (d.modSupply i f).supply j = d.supply j := by simp [Dev.supply_modSupply, h]

theorem Dev.step_modStep (i j : SlotNo) (f : StepRec → StepRec) (d : Dev) :
    (d.modStep i f).step j = if j = i then f (d.step j) else d.step j := modAt_get_ite _ _ _ _

@[simp] theorem Dev.step_modStep_same (i : SlotNo) (f : StepRec → StepRec) (d : Dev) : (d.modStep i f).step i = f (d.step i) := by
  simp [Dev.step_modStep]

@[simp] theorem Dev.step_modStep_ne (i j : SlotNo) (h : j ≠ i) (f : StepRec → StepRec) (d : Dev) :
    (d.modStep i f).step j = d.step j := by simp [Dev.step_modStep, h]

theorem Dev.cls_modClass (i j : Fin 11) (f : ClassRec → ClassRec) (d : Dev) :
    (d.modClass i f).cls j = if j = i then f (d.cls j) else d.cls j := modAt_get_ite _ _ _ _

@[simp] theorem Dev.cls_modClass_same (i : Fin 11) (f : ClassRec → ClassRec) (d : Dev) : (d.modClass i f).cls i = f (d.cls i) := by
  simp [Dev.cls_modClass]

@[simp] theorem Dev.cls_modClass_ne (i j : Fin 11) (h : j ≠ i) (f : ClassRec → ClassRec) (d : Dev) :
    (d.modClass i f).cls j = d.cls j := by simp [Dev.cls_modClass, h]

theorem Dev.heldBase_setHeld (i j : SlotNo) (h : Option Nat) (d : Dev) :
    (d.setHeld i h).heldBase j = if j = i then h else d.heldBase j := modAt_get_ite _ _ _ _

theorem Dev.tierRec_modTier (x y : Tier) (f : TierRec → TierRec) (d : Dev) :
    (d.modTier x f).tierRec y = if y = x then f (d.tierRec y) else d.tierRec y := by cases x <;> cases y <;> rfl

theorem Dev.link_modLink (k l : Link) (f : LinkRec → LinkRec) (d : Dev) :
    (d.modLink k f).link l = if l = k then f (d.link l) else d.link l := by cases k <;> cases l <;> rfl

@[simp] theorem Dev.link_modLink_same (l : Link) (f : LinkRec → LinkRec) (d : Dev) : (d.modLink l f).link l = f (d.link l) := by
  cases l <;> rfl

@[simp] theorem Dev.link_modLink_other (l : Link) (f : LinkRec → LinkRec) (d : Dev) :
    (d.modLink l f).link (other l) = d.link (other l) := by cases l <;> rfl

@[simp] theorem Dev.raise_uptime (c : Fin 11) (k : SubjectKind) (i code : Nat) (x : List Int) (d : Dev) :
    (d.raise c k i code x).atc.uptime = d.atc.uptime := rfl

/-! ## Accessors after an update of another table -/

@[simp] theorem Dev.slot_of_modPort (p : PortNo) (f : PortRec → PortRec) (m : SlotNo) (d : Dev) : (d.modPort p f).slot m = d.slot m := rfl
@[simp] theorem Dev.supply_of_modPort (p : PortNo) (f : PortRec → PortRec) (x : BayNo) (d : Dev) : (d.modPort p f).supply x = d.supply x := rfl
@[simp] theorem Dev.step_of_modPort (p : PortNo) (f : PortRec → PortRec) (m : SlotNo) (d : Dev) : (d.modPort p f).step m = d.step m := rfl
@[simp] theorem Dev.cls_of_modPort (p : PortNo) (f : PortRec → PortRec) (x : Fin 11) (d : Dev) : (d.modPort p f).cls x = d.cls x := rfl
@[simp] theorem Dev.link_of_modPort (p : PortNo) (f : PortRec → PortRec) (x : Link) (d : Dev) : (d.modPort p f).link x = d.link x := by cases x <;> rfl
@[simp] theorem Dev.tierRec_of_modPort (p : PortNo) (f : PortRec → PortRec) (x : Tier) (d : Dev) : (d.modPort p f).tierRec x = d.tierRec x := by cases x <;> rfl
@[simp] theorem Dev.heldBase_of_modPort (p : PortNo) (f : PortRec → PortRec) (m : SlotNo) (d : Dev) : (d.modPort p f).heldBase m = d.heldBase m := rfl
@[simp] theorem Dev.port_of_modSlot (n : SlotNo) (f : SlotRec → SlotRec) (q : PortNo) (d : Dev) : (d.modSlot n f).port q = d.port q := rfl
@[simp] theorem Dev.supply_of_modSlot (n : SlotNo) (f : SlotRec → SlotRec) (x : BayNo) (d : Dev) : (d.modSlot n f).supply x = d.supply x := rfl
@[simp] theorem Dev.step_of_modSlot (n : SlotNo) (f : SlotRec → SlotRec) (m : SlotNo) (d : Dev) : (d.modSlot n f).step m = d.step m := rfl
@[simp] theorem Dev.cls_of_modSlot (n : SlotNo) (f : SlotRec → SlotRec) (x : Fin 11) (d : Dev) : (d.modSlot n f).cls x = d.cls x := rfl
@[simp] theorem Dev.link_of_modSlot (n : SlotNo) (f : SlotRec → SlotRec) (x : Link) (d : Dev) : (d.modSlot n f).link x = d.link x := by cases x <;> rfl
@[simp] theorem Dev.tierRec_of_modSlot (n : SlotNo) (f : SlotRec → SlotRec) (x : Tier) (d : Dev) : (d.modSlot n f).tierRec x = d.tierRec x := by cases x <;> rfl
@[simp] theorem Dev.heldBase_of_modSlot (n : SlotNo) (f : SlotRec → SlotRec) (m : SlotNo) (d : Dev) : (d.modSlot n f).heldBase m = d.heldBase m := rfl
@[simp] theorem Dev.port_of_modSupply (b : BayNo) (f : SupplyRec → SupplyRec) (q : PortNo) (d : Dev) : (d.modSupply b f).port q = d.port q := rfl
@[simp] theorem Dev.slot_of_modSupply (b : BayNo) (f : SupplyRec → SupplyRec) (m : SlotNo) (d : Dev) : (d.modSupply b f).slot m = d.slot m := rfl
@[simp] theorem Dev.step_of_modSupply (b : BayNo) (f : SupplyRec → SupplyRec) (m : SlotNo) (d : Dev) : (d.modSupply b f).step m = d.step m := rfl
@[simp] theorem Dev.cls_of_modSupply (b : BayNo) (f : SupplyRec → SupplyRec) (x : Fin 11) (d : Dev) : (d.modSupply b f).cls x = d.cls x := rfl
@[simp] theorem Dev.link_of_modSupply (b : BayNo) (f : SupplyRec → SupplyRec) (x : Link) (d : Dev) : (d.modSupply b f).link x = d.link x := by cases x <;> rfl
@[simp] theorem Dev.tierRec_of_modSupply (b : BayNo) (f : SupplyRec → SupplyRec) (x : Tier) (d : Dev) : (d.modSupply b f).tierRec x = d.tierRec x := by cases x <;> rfl
@[simp] theorem Dev.heldBase_of_modSupply (b : BayNo) (f : SupplyRec → SupplyRec) (m : SlotNo) (d : Dev) : (d.modSupply b f).heldBase m = d.heldBase m := rfl
@[simp] theorem Dev.port_of_setHeld (n : SlotNo) (h : Option Nat) (q : PortNo) (d : Dev) : (d.setHeld n h).port q = d.port q := rfl
@[simp] theorem Dev.slot_of_setHeld (n : SlotNo) (h : Option Nat) (m : SlotNo) (d : Dev) : (d.setHeld n h).slot m = d.slot m := rfl
@[simp] theorem Dev.supply_of_setHeld (n : SlotNo) (h : Option Nat) (x : BayNo) (d : Dev) : (d.setHeld n h).supply x = d.supply x := rfl
@[simp] theorem Dev.step_of_setHeld (n : SlotNo) (h : Option Nat) (m : SlotNo) (d : Dev) : (d.setHeld n h).step m = d.step m := rfl
@[simp] theorem Dev.cls_of_setHeld (n : SlotNo) (h : Option Nat) (x : Fin 11) (d : Dev) : (d.setHeld n h).cls x = d.cls x := rfl
@[simp] theorem Dev.link_of_setHeld (n : SlotNo) (h : Option Nat) (x : Link) (d : Dev) : (d.setHeld n h).link x = d.link x := by cases x <;> rfl
@[simp] theorem Dev.tierRec_of_setHeld (n : SlotNo) (h : Option Nat) (x : Tier) (d : Dev) : (d.setHeld n h).tierRec x = d.tierRec x := by cases x <;> rfl
@[simp] theorem Dev.port_of_book (n : Nat) (q : PortNo) (d : Dev) : (d.book n).port q = d.port q := rfl
@[simp] theorem Dev.slot_of_book (n : Nat) (m : SlotNo) (d : Dev) : (d.book n).slot m = d.slot m := rfl
@[simp] theorem Dev.supply_of_book (n : Nat) (x : BayNo) (d : Dev) : (d.book n).supply x = d.supply x := rfl
@[simp] theorem Dev.step_of_book (n : Nat) (m : SlotNo) (d : Dev) : (d.book n).step m = d.step m := rfl
@[simp] theorem Dev.cls_of_book (n : Nat) (x : Fin 11) (d : Dev) : (d.book n).cls x = d.cls x := rfl
@[simp] theorem Dev.link_of_book (n : Nat) (x : Link) (d : Dev) : (d.book n).link x = d.link x := by cases x <;> rfl
@[simp] theorem Dev.tierRec_of_book (n : Nat) (x : Tier) (d : Dev) : (d.book n).tierRec x = d.tierRec x := by cases x <;> rfl
@[simp] theorem Dev.heldBase_of_book (n : Nat) (m : SlotNo) (d : Dev) : (d.book n).heldBase m = d.heldBase m := rfl
@[simp] theorem Dev.port_of_modStep (n : SlotNo) (f : StepRec → StepRec) (q : PortNo) (d : Dev) : (d.modStep n f).port q = d.port q := rfl
@[simp] theorem Dev.slot_of_modStep (n : SlotNo) (f : StepRec → StepRec) (m : SlotNo) (d : Dev) : (d.modStep n f).slot m = d.slot m := rfl
@[simp] theorem Dev.supply_of_modStep (n : SlotNo) (f : StepRec → StepRec) (x : BayNo) (d : Dev) : (d.modStep n f).supply x = d.supply x := rfl
@[simp] theorem Dev.cls_of_modStep (n : SlotNo) (f : StepRec → StepRec) (x : Fin 11) (d : Dev) : (d.modStep n f).cls x = d.cls x := rfl
@[simp] theorem Dev.link_of_modStep (n : SlotNo) (f : StepRec → StepRec) (x : Link) (d : Dev) : (d.modStep n f).link x = d.link x := by cases x <;> rfl
@[simp] theorem Dev.tierRec_of_modStep (n : SlotNo) (f : StepRec → StepRec) (x : Tier) (d : Dev) : (d.modStep n f).tierRec x = d.tierRec x := by cases x <;> rfl
@[simp] theorem Dev.heldBase_of_modStep (n : SlotNo) (f : StepRec → StepRec) (m : SlotNo) (d : Dev) : (d.modStep n f).heldBase m = d.heldBase m := rfl
@[simp] theorem Dev.port_of_modClass (c : Fin 11) (f : ClassRec → ClassRec) (q : PortNo) (d : Dev) : (d.modClass c f).port q = d.port q := rfl
@[simp] theorem Dev.slot_of_modClass (c : Fin 11) (f : ClassRec → ClassRec) (m : SlotNo) (d : Dev) : (d.modClass c f).slot m = d.slot m := rfl
@[simp] theorem Dev.supply_of_modClass (c : Fin 11) (f : ClassRec → ClassRec) (x : BayNo) (d : Dev) : (d.modClass c f).supply x = d.supply x := rfl
@[simp] theorem Dev.step_of_modClass (c : Fin 11) (f : ClassRec → ClassRec) (m : SlotNo) (d : Dev) : (d.modClass c f).step m = d.step m := rfl
@[simp] theorem Dev.link_of_modClass (c : Fin 11) (f : ClassRec → ClassRec) (x : Link) (d : Dev) : (d.modClass c f).link x = d.link x := by cases x <;> rfl
@[simp] theorem Dev.tierRec_of_modClass (c : Fin 11) (f : ClassRec → ClassRec) (x : Tier) (d : Dev) : (d.modClass c f).tierRec x = d.tierRec x := by cases x <;> rfl
@[simp] theorem Dev.heldBase_of_modClass (c : Fin 11) (f : ClassRec → ClassRec) (m : SlotNo) (d : Dev) : (d.modClass c f).heldBase m = d.heldBase m := rfl
@[simp] theorem Dev.port_of_raise (c : Fin 11) (k : SubjectKind) (i code : Nat) (o : List Int) (q : PortNo) (d : Dev) : (d.raise c k i code o).port q = d.port q := rfl
@[simp] theorem Dev.slot_of_raise (c : Fin 11) (k : SubjectKind) (i code : Nat) (o : List Int) (m : SlotNo) (d : Dev) : (d.raise c k i code o).slot m = d.slot m := rfl
@[simp] theorem Dev.supply_of_raise (c : Fin 11) (k : SubjectKind) (i code : Nat) (o : List Int) (x : BayNo) (d : Dev) : (d.raise c k i code o).supply x = d.supply x := rfl
@[simp] theorem Dev.step_of_raise (c : Fin 11) (k : SubjectKind) (i code : Nat) (o : List Int) (m : SlotNo) (d : Dev) : (d.raise c k i code o).step m = d.step m := rfl
@[simp] theorem Dev.link_of_raise (c : Fin 11) (k : SubjectKind) (i code : Nat) (o : List Int) (x : Link) (d : Dev) : (d.raise c k i code o).link x = d.link x := by cases x <;> rfl
@[simp] theorem Dev.tierRec_of_raise (c : Fin 11) (k : SubjectKind) (i code : Nat) (o : List Int) (x : Tier) (d : Dev) : (d.raise c k i code o).tierRec x = d.tierRec x := by cases x <;> rfl
@[simp] theorem Dev.heldBase_of_raise (c : Fin 11) (k : SubjectKind) (i code : Nat) (o : List Int) (m : SlotNo) (d : Dev) : (d.raise c k i code o).heldBase m = d.heldBase m := rfl
@[simp] theorem Dev.port_of_modTier (y : Tier) (f : TierRec → TierRec) (q : PortNo) (d : Dev) : (d.modTier y f).port q = d.port q := by cases y <;> rfl
@[simp] theorem Dev.slot_of_modTier (y : Tier) (f : TierRec → TierRec) (m : SlotNo) (d : Dev) : (d.modTier y f).slot m = d.slot m := by cases y <;> rfl
@[simp] theorem Dev.supply_of_modTier (y : Tier) (f : TierRec → TierRec) (x : BayNo) (d : Dev) : (d.modTier y f).supply x = d.supply x := by cases y <;> rfl
@[simp] theorem Dev.step_of_modTier (y : Tier) (f : TierRec → TierRec) (m : SlotNo) (d : Dev) : (d.modTier y f).step m = d.step m := by cases y <;> rfl
@[simp] theorem Dev.cls_of_modTier (y : Tier) (f : TierRec → TierRec) (x : Fin 11) (d : Dev) : (d.modTier y f).cls x = d.cls x := by cases y <;> rfl
@[simp] theorem Dev.link_of_modTier (y : Tier) (f : TierRec → TierRec) (x : Link) (d : Dev) : (d.modTier y f).link x = d.link x := by cases y <;> cases x <;> rfl
@[simp] theorem Dev.heldBase_of_modTier (y : Tier) (f : TierRec → TierRec) (m : SlotNo) (d : Dev) : (d.modTier y f).heldBase m = d.heldBase m := by cases y <;> rfl
@[simp] theorem Dev.port_of_modLink (l : Link) (f : LinkRec → LinkRec) (q : PortNo) (d : Dev) : (d.modLink l f).port q = d.port q := by cases l <;> rfl
@[simp] theorem Dev.slot_of_modLink (l : Link) (f : LinkRec → LinkRec) (m : SlotNo) (d : Dev) : (d.modLink l f).slot m = d.slot m := by cases l <;> rfl
@[simp] theorem Dev.supply_of_modLink (l : Link) (f : LinkRec → LinkRec) (x : BayNo) (d : Dev) : (d.modLink l f).supply x = d.supply x := by cases l <;> rfl
@[simp] theorem Dev.step_of_modLink (l : Link) (f : LinkRec → LinkRec) (m : SlotNo) (d : Dev) : (d.modLink l f).step m = d.step m := by cases l <;> rfl
@[simp] theorem Dev.cls_of_modLink (l : Link) (f : LinkRec → LinkRec) (x : Fin 11) (d : Dev) : (d.modLink l f).cls x = d.cls x := by cases l <;> rfl
@[simp] theorem Dev.tierRec_of_modLink (l : Link) (f : LinkRec → LinkRec) (x : Tier) (d : Dev) : (d.modLink l f).tierRec x = d.tierRec x := by cases l <;> cases x <;> rfl
@[simp] theorem Dev.heldBase_of_modLink (l : Link) (f : LinkRec → LinkRec) (m : SlotNo) (d : Dev) : (d.modLink l f).heldBase m = d.heldBase m := by cases l <;> rfl
@[simp] theorem Dev.port_of_passTo (n : Nat) (q : PortNo) (d : Dev) : (d.passTo n).port q = d.port q := rfl
@[simp] theorem Dev.slot_of_passTo (n : Nat) (m : SlotNo) (d : Dev) : (d.passTo n).slot m = d.slot m := rfl
@[simp] theorem Dev.supply_of_passTo (n : Nat) (x : BayNo) (d : Dev) : (d.passTo n).supply x = d.supply x := rfl
@[simp] theorem Dev.step_of_passTo (n : Nat) (m : SlotNo) (d : Dev) : (d.passTo n).step m = d.step m := rfl
@[simp] theorem Dev.cls_of_passTo (n : Nat) (x : Fin 11) (d : Dev) : (d.passTo n).cls x = d.cls x := rfl
@[simp] theorem Dev.link_of_passTo (n : Nat) (x : Link) (d : Dev) : (d.passTo n).link x = d.link x := by cases x <;> rfl
@[simp] theorem Dev.tierRec_of_passTo (n : Nat) (x : Tier) (d : Dev) : (d.passTo n).tierRec x = d.tierRec x := by cases x <;> rfl
@[simp] theorem Dev.heldBase_of_passTo (n : Nat) (m : SlotNo) (d : Dev) : (d.passTo n).heldBase m = d.heldBase m := rfl
@[simp] theorem Dev.port_of_useStamp (q : PortNo) (d : Dev) : (d.useStamp).port q = d.port q := rfl
@[simp] theorem Dev.slot_of_useStamp (m : SlotNo) (d : Dev) : (d.useStamp).slot m = d.slot m := rfl
@[simp] theorem Dev.supply_of_useStamp (x : BayNo) (d : Dev) : (d.useStamp).supply x = d.supply x := rfl
@[simp] theorem Dev.step_of_useStamp (m : SlotNo) (d : Dev) : (d.useStamp).step m = d.step m := rfl
@[simp] theorem Dev.cls_of_useStamp (x : Fin 11) (d : Dev) : (d.useStamp).cls x = d.cls x := rfl
@[simp] theorem Dev.link_of_useStamp (x : Link) (d : Dev) : (d.useStamp).link x = d.link x := by cases x <;> rfl
@[simp] theorem Dev.tierRec_of_useStamp (x : Tier) (d : Dev) : (d.useStamp).tierRec x = d.tierRec x := by cases x <;> rfl
@[simp] theorem Dev.heldBase_of_useStamp (m : SlotNo) (d : Dev) : (d.useStamp).heldBase m = d.heldBase m := rfl
@[simp] theorem Dev.port_of_callRestore (q : PortNo) (d : Dev) : (d.callRestore).port q = d.port q := rfl
@[simp] theorem Dev.slot_of_callRestore (m : SlotNo) (d : Dev) : (d.callRestore).slot m = d.slot m := rfl
@[simp] theorem Dev.supply_of_callRestore (x : BayNo) (d : Dev) : (d.callRestore).supply x = d.supply x := rfl
@[simp] theorem Dev.step_of_callRestore (m : SlotNo) (d : Dev) : (d.callRestore).step m = d.step m := rfl
@[simp] theorem Dev.cls_of_callRestore (x : Fin 11) (d : Dev) : (d.callRestore).cls x = d.cls x := rfl
@[simp] theorem Dev.link_of_callRestore (x : Link) (d : Dev) : (d.callRestore).link x = d.link x := by cases x <;> rfl
@[simp] theorem Dev.tierRec_of_callRestore (x : Tier) (d : Dev) : (d.callRestore).tierRec x = d.tierRec x := by cases x <;> rfl
@[simp] theorem Dev.heldBase_of_callRestore (m : SlotNo) (d : Dev) : (d.callRestore).heldBase m = d.heldBase m := rfl
@[simp] theorem Dev.port_of_callEdu (q : PortNo) (d : Dev) : (d.callEdu).port q = d.port q := rfl
@[simp] theorem Dev.slot_of_callEdu (m : SlotNo) (d : Dev) : (d.callEdu).slot m = d.slot m := rfl
@[simp] theorem Dev.supply_of_callEdu (x : BayNo) (d : Dev) : (d.callEdu).supply x = d.supply x := rfl
@[simp] theorem Dev.step_of_callEdu (m : SlotNo) (d : Dev) : (d.callEdu).step m = d.step m := rfl
@[simp] theorem Dev.cls_of_callEdu (x : Fin 11) (d : Dev) : (d.callEdu).cls x = d.cls x := rfl
@[simp] theorem Dev.link_of_callEdu (x : Link) (d : Dev) : (d.callEdu).link x = d.link x := by cases x <;> rfl
@[simp] theorem Dev.tierRec_of_callEdu (x : Tier) (d : Dev) : (d.callEdu).tierRec x = d.tierRec x := by cases x <;> rfl
@[simp] theorem Dev.heldBase_of_callEdu (m : SlotNo) (d : Dev) : (d.callEdu).heldBase m = d.heldBase m := rfl
@[simp] theorem Dev.port_of_callJudge (q : PortNo) (d : Dev) : (d.callJudge).port q = d.port q := rfl
@[simp] theorem Dev.slot_of_callJudge (m : SlotNo) (d : Dev) : (d.callJudge).slot m = d.slot m := rfl
@[simp] theorem Dev.supply_of_callJudge (x : BayNo) (d : Dev) : (d.callJudge).supply x = d.supply x := rfl
@[simp] theorem Dev.step_of_callJudge (m : SlotNo) (d : Dev) : (d.callJudge).step m = d.step m := rfl
@[simp] theorem Dev.cls_of_callJudge (x : Fin 11) (d : Dev) : (d.callJudge).cls x = d.cls x := rfl
@[simp] theorem Dev.link_of_callJudge (x : Link) (d : Dev) : (d.callJudge).link x = d.link x := by cases x <;> rfl
@[simp] theorem Dev.tierRec_of_callJudge (x : Tier) (d : Dev) : (d.callJudge).tierRec x = d.tierRec x := by cases x <;> rfl
@[simp] theorem Dev.heldBase_of_callJudge (m : SlotNo) (d : Dev) : (d.callJudge).heldBase m = d.heldBase m := rfl

end Sys2Proof.Machine
end

