-- ==== Sys2Proof/Laws/Ops.lean ====
section
/-! SUPPORT. What each shared operation can do, said once: the reach of the end of an event and of the notices, the two shapes of
an event, and the service of a request by each of R171's checks. -/

namespace Sys2Proof.Machine

/-! ## What the work of an event cannot reach -/

/-- The part without what booking power, moving ports, slots and seats, distributing permissions, stamping and raising events
change: the clock, the lines, the sensors, the cooling, the store, the links, mastership, the reset causes, the hold, the
settings of the budget, the certificates and their store write, the zone sets and the watch entries. -/
def Dev.outside (d : Dev) : Dev :=
  { d with
    pbu := { d.pbu with allocated := 0, overcommit := false, heldBase := ({} : Pbu).heldBase, restoreQ := [] }
    spc := {}, ptc := {}
    lcu := { d.lcu with base := {}, high := {}, borrowers := [] }
    zne := { d.zne with nodes := [] }
    perm := {}, edu := {}
    wtb := { d.wtb with next := 0 }
    atc := { d.atc with classes := ({} : Atc).classes }
    work := {} }

/-- Two parts that agree outside agree in every block the work of an event cannot reach. -/
theorem Dev.outside_fields {d e : Dev} (h : d.outside = e.outside) :
    d.now = e.now ∧ d.lines = e.lines ∧ d.ssu = e.ssu ∧ d.clc = e.clc ∧ d.store = e.store ∧ d.mli = e.mli ∧ d.msa = e.msa ∧
      d.causes = e.causes ∧ d.hold = e.hold ∧ d.wtb.entries = e.wtb.entries ∧ d.zne.zones = e.zne.zones ∧
      d.zne.staged = e.zne.staged ∧ d.lcu.table = e.lcu.table ∧ d.lcu.op = e.lcu.op ∧ d.lcu.counter = e.lcu.counter ∧
      d.pbu.supplies = e.pbu.supplies ∧ d.pbu.available = e.pbu.available ∧ d.atc.uptime = e.atc.uptime := by
  have f : ∀ {α : Type} (g : Dev → α), g d.outside = g e.outside := fun g => congrArg g h
  exact ⟨f (·.now), f (·.lines), f (·.ssu), f (·.clc), f (·.store), f (·.mli), f (·.msa), f (·.causes), f (·.hold),
    f (·.wtb.entries), f (·.zne.zones), f (·.zne.staged), f (·.lcu.table), f (·.lcu.op), f (·.lcu.counter),
    f (·.pbu.supplies), f (·.pbu.available), f (·.atc.uptime)⟩

/-- A fold of steps that leave `π` alone leaves it alone. -/
theorem foldl_keeps {α β γ : Type} (π : α → γ) (f : α → β → α) (h : ∀ a b, π (f a b) = π a) (l : List β) (a : α) :
    π (l.foldl f a) = π a := by
  induction l generalizing a with
  | nil => rfl
  | cons b l ih => simp [ih, h]

@[simp] theorem Dev.modPort_outside (p : PortNo) (f : PortRec → PortRec) (d : Dev) : (d.modPort p f).outside = d.outside := rfl
@[simp] theorem Dev.modSlot_outside (n : SlotNo) (f : SlotRec → SlotRec) (d : Dev) : (d.modSlot n f).outside = d.outside := rfl
@[simp] theorem Dev.modStep_outside (n : SlotNo) (f : StepRec → StepRec) (d : Dev) : (d.modStep n f).outside = d.outside := rfl
@[simp] theorem Dev.modClass_outside (c : Fin 11) (f : ClassRec → ClassRec) (d : Dev) : (d.modClass c f).outside = d.outside := rfl
@[simp] theorem Dev.setHeld_outside (n : SlotNo) (h : Option Nat) (d : Dev) : (d.setHeld n h).outside = d.outside := rfl
@[simp] theorem Dev.book_outside (n : Nat) (d : Dev) : (d.book n).outside = d.outside := rfl
@[simp] theorem Dev.commit_outside (w : Nat) (d : Dev) : (d.commit w).outside = d.outside := rfl
@[simp] theorem Dev.release_outside (w : Nat) (d : Dev) : (d.release w).outside = d.outside := rfl
@[simp] theorem Dev.useStamp_outside (d : Dev) : d.useStamp.outside = d.outside := rfl
@[simp] theorem Dev.callRestore_outside (d : Dev) : d.callRestore.outside = d.outside := rfl
@[simp] theorem Dev.callEdu_outside (d : Dev) : d.callEdu.outside = d.outside := rfl
@[simp] theorem Dev.callJudge_outside (d : Dev) : d.callJudge.outside = d.outside := rfl

@[simp] theorem Dev.raise_outside (c : Fin 11) (k : SubjectKind) (i code : Nat) (x : List Int) (d : Dev) :
    (d.raise c k i code x).outside = d.outside := rfl

@[simp] theorem Dev.modTier_outside (y : Tier) (f : TierRec → TierRec) (d : Dev) : (d.modTier y f).outside = d.outside := by
  cases y <;> rfl

@[simp] theorem Dev.callReclaim_outside (y : Tier) (d : Dev) : (d.callReclaim y).outside = d.outside := by cases y <;> rfl

@[simp] theorem Dev.outside_work (d : Dev) (w : Work) : ({ d with work := w } : Dev).outside = d.outside := rfl
@[simp] theorem Dev.outside_spc (d : Dev) (x : Spc) : ({ d with spc := x } : Dev).outside = d.outside := rfl
@[simp] theorem Dev.outside_perm (d : Dev) (x : Perm) : ({ d with perm := x } : Dev).outside = d.outside := rfl

@[simp] theorem Dev.outside_restoreQ (d : Dev) (q : List PortNo) :
    ({ d with pbu := { d.pbu with restoreQ := q } } : Dev).outside = d.outside := rfl

@[simp] theorem Dev.outside_borrowers (d : Dev) (q : List PortNo) :
    ({ d with lcu := { d.lcu with borrowers := q } } : Dev).outside = d.outside := rfl

@[simp] theorem Dev.outside_nodes (d : Dev) (x : List NodeEntry) :
    ({ d with zne := { d.zne with nodes := x } } : Dev).outside = d.outside := rfl

@[simp] theorem Dev.outside_overcommit (d : Dev) (x : Bool) :
    ({ d with pbu := { d.pbu with overcommit := x } } : Dev).outside = d.outside := rfl

@[simp] theorem Dev.stampPort_outside (p : PortNo) (d : Dev) : (d.stampPort p).outside = d.outside := by
  unfold Dev.stampPort; split <;> rfl

@[simp] theorem Dev.stampSlot_outside (n : SlotNo) (d : Dev) : (d.stampSlot n).outside = d.outside := by
  unfold Dev.stampSlot; split <;> rfl

@[simp] theorem Dev.releaseBase_outside (n : SlotNo) (d : Dev) : (d.releaseBase n).outside = d.outside := by
  unfold Dev.releaseBase; split <;> rfl

@[simp] theorem Dev.touchNode_outside (n : Nat) (d : Dev) : (d.touchNode n).outside = d.outside := by
  unfold Dev.touchNode; split <;> rfl

@[simp] theorem Dev.detachPort_outside (p : PortNo) (d : Dev) : (d.detachPort p).outside = d.outside := by
  unfold Dev.detachPort
  exact foldl_keeps Dev.outside _ (by simp) _ _

/-! ## Seats, ports and slots -/

@[simp] theorem Dev.moveBorrower_outside (p : PortNo) (d : Dev) : (d.moveBorrower p).outside = d.outside := by
  simp [Dev.moveBorrower]

theorem Dev.rebalanceList_outside (ps : List PortNo) (d : Dev) : (Dev.rebalanceList ps d).outside = d.outside := by
  induction ps generalizing d with
  | nil => rfl
  | cons p ps ih => unfold Dev.rebalanceList; split <;> simp [ih]

@[simp] theorem Dev.rebalance_outside (d : Dev) : d.rebalance.outside = d.outside := Dev.rebalanceList_outside _ _

@[simp] theorem Dev.retotal_outside (d : Dev) : d.retotal.outside = d.outside := by simp [Dev.retotal]

@[simp] theorem Dev.judgeGrace_outside (y : Tier) (d : Dev) : (d.judgeGrace y).outside = d.outside := by
  unfold Dev.judgeGrace
  split
  · rfl
  · dsimp only; split <;> (repeat' split) <;> simp

@[simp] theorem Dev.seatReview_outside (d : Dev) : d.seatReview.outside = d.outside := by simp [Dev.seatReview]

@[simp] theorem Dev.seatTaken_outside (p : PortNo) (st : Seat) (d : Dev) : (d.seatTaken p st).outside = d.outside := by
  cases st <;> rfl

@[simp] theorem Dev.seatReleased_outside (p : PortNo) (st : Seat) (d : Dev) : (d.seatReleased p st).outside = d.outside := by
  cases st <;> exact (Dev.seatReview_outside _).trans rfl

@[simp] theorem Dev.leaveState_outside (p : PortNo) (r : PortRec) (d : Dev) : (d.leaveState p r).outside = d.outside := by
  unfold Dev.leaveState; split <;> simp

@[simp] theorem Dev.offline_outside (p : PortNo) (c : PortCause) (d : Dev) : (d.offline p c).outside = d.outside := by
  unfold Dev.offline; dsimp only; split <;> simp

@[simp] theorem Dev.idlePort_outside (p : PortNo) (st : PortState) (d : Dev) : (d.idlePort p st).outside = d.outside := by
  simp [Dev.idlePort]

@[simp] theorem Dev.toShed_outside (p : PortNo) (d : Dev) : (d.toShed p).outside = d.outside := by simp [Dev.toShed]

@[simp] theorem Dev.toActive_outside (p : PortNo) (d : Dev) : (d.toActive p).outside = d.outside := by simp [Dev.toActive]

@[simp] theorem Dev.offlineAll_outside (ps : List PortNo) (c : PortCause) (d : Dev) :
    (d.offlineAll ps c).outside = d.outside := foldl_keeps Dev.outside _ (by simp) _ _

@[simp] theorem Dev.setOptic_outside (p : PortNo) (o : Option (Fin 4)) (d : Dev) : (d.setOptic p o).outside = d.outside := by
  unfold Dev.setOptic; split <;> simp

@[simp] theorem Dev.reclaim_outside (y : Tier) (d : Dev) : (d.reclaim y).outside = d.outside := by simp [Dev.reclaim]

@[simp] theorem Dev.cutPower_outside (n : SlotNo) (d : Dev) : (d.cutPower n).outside = d.outside := by
  unfold Dev.cutPower; dsimp only; split <;> simp

@[simp] theorem Dev.eduLeave_outside (n : SlotNo) (d : Dev) : (d.eduLeave n).outside = d.outside := rfl
@[simp] theorem Dev.eduEnter_outside (n : SlotNo) (d : Dev) : (d.eduEnter n).outside = d.outside := rfl

@[simp] theorem Dev.leavePowered_outside (n : SlotNo) (d : Dev) : (d.leavePowered n).outside = d.outside := by
  simp [Dev.leavePowered]

@[simp] theorem Dev.opticsAbsent_outside (n : SlotNo) (d : Dev) : (d.opticsAbsent n).outside = d.outside :=
  foldl_keeps Dev.outside _ (by simp) _ _

@[simp] theorem Dev.portsDown_outside (n : SlotNo) (c : PortCause) (d : Dev) : (d.portsDown n c).outside = d.outside := by
  simp [Dev.portsDown]

@[simp] theorem Dev.suspendPorts_outside (n : SlotNo) (d : Dev) : (d.suspendPorts n).outside = d.outside :=
  foldl_keeps Dev.outside _ (by intro a b; split <;> simp) _ _

@[simp] theorem Dev.slotFault_outside (n : SlotNo) (k : FaultKind) (d : Dev) : (d.slotFault n k).outside = d.outside := by
  unfold Dev.slotFault; dsimp only; repeat' split
  all_goals simp only [Dev.raise_outside, Dev.opticsAbsent_outside, Dev.stampSlot_outside, Dev.modSlot_outside,
    Dev.leavePowered_outside, Dev.suspendPorts_outside, Dev.cutPower_outside, Dev.portsDown_outside, Dev.releaseBase_outside]

@[simp] theorem Dev.slotDown_outside (n : SlotNo) (d : Dev) : (d.slotDown n).outside = d.outside := by
  unfold Dev.slotDown; dsimp only; split <;> simp

@[simp] theorem Dev.powerOff_outside (n : SlotNo) (c : SlotCause) (d : Dev) : (d.powerOff n c).outside = d.outside := by
  unfold Dev.powerOff; dsimp only; repeat' split
  all_goals simp

@[simp] theorem Dev.removeSlot_outside (n : SlotNo) (d : Dev) : (d.removeSlot n).outside = d.outside := by
  unfold Dev.removeSlot; dsimp only; repeat' split
  all_goals simp

@[simp] theorem Dev.enterPowered_outside (n : SlotNo) (d : Dev) : (d.enterPowered n).outside = d.outside := by
  simp [Dev.enterPowered]

@[simp] theorem Dev.startRamp_outside (n : SlotNo) (d : Dev) : (d.startRamp n).outside = d.outside := by
  unfold Dev.startRamp; dsimp only; repeat' split
  all_goals simp

theorem Dev.rampList_outside (ns : List SlotNo) (d : Dev) : (Dev.rampList ns d).outside = d.outside := by
  induction ns generalizing d with
  | nil => rfl
  | cons n ns ih => unfold Dev.rampList; split <;> simp [ih]

@[simp] theorem Dev.judgeQueue_outside (d : Dev) : d.judgeQueue.outside = d.outside := Dev.rampList_outside _ _

@[simp] theorem Dev.enqueue_outside (n : SlotNo) (d : Dev) : (d.enqueue n).outside = d.outside := by simp [Dev.enqueue]

@[simp] theorem Dev.holdPorts_outside (n : SlotNo) (d : Dev) : (d.holdPorts n).outside = d.outside :=
  foldl_keeps Dev.outside _ (by intro a b; split <;> simp) _ _

@[simp] theorem Dev.powerOffAll_outside (c : SlotCause) (d : Dev) : (d.powerOffAll c).outside = d.outside :=
  foldl_keeps Dev.outside _ (by simp) _ _

/-! ## The budget and the end of an event -/

@[simp] theorem Dev.shedPort_outside (p : PortNo) (d : Dev) : (d.shedPort p).outside = d.outside :=
  Dev.toShed_outside p d

@[simp] theorem Dev.shedSlot_outside (n : SlotNo) (d : Dev) : (d.shedSlot n).outside = d.outside :=
  Dev.powerOff_outside n .budget d

@[simp] theorem Dev.shedPorts_outside (ps : List PortNo) (d : Dev) : (d.shedPorts ps).outside = d.outside :=
  foldl_keeps Dev.outside _ (by intro a b; split <;> simp) _ _

@[simp] theorem Dev.shedSlots_outside (ns : List SlotNo) (d : Dev) : (d.shedSlots ns).outside = d.outside :=
  foldl_keeps Dev.outside _ (by intro a b; split <;> simp) _ _

@[simp] theorem Dev.enterOvercommit_outside (d : Dev) : d.enterOvercommit.outside = d.outside := by
  unfold Dev.enterOvercommit; split <;> simp

@[simp] theorem Dev.shed_outside (d : Dev) : d.shed.outside = d.outside := by simp [Dev.shed]

theorem Dev.restoreList_outside (ps : List PortNo) (d : Dev) : (Dev.restoreList ps d).outside = d.outside := by
  induction ps generalizing d with
  | nil => rfl
  | cons p ps ih => unfold Dev.restoreList; repeat' split
                    all_goals simp [ih]

@[simp] theorem Dev.restorePass_outside (d : Dev) : d.restorePass.outside = d.outside := by
  unfold Dev.restorePass; split <;> simp [Dev.restoreList_outside]

@[simp] theorem Dev.runReclaims_outside (d : Dev) : d.runReclaims.outside = d.outside := by
  unfold Dev.runReclaims; dsimp only; repeat' split
  all_goals simp

@[simp] theorem Dev.compile_outside (d : Dev) : d.compile.outside = d.outside := by
  unfold Dev.compile; split <;> simp

@[simp] theorem Dev.markDirty_outside (d : Dev) : d.markDirty.outside = d.outside :=
  foldl_keeps Dev.outside _ (by intro a b; split <;> simp) _ _

@[simp] theorem Dev.reform_outside (d : Dev) : d.reform.outside = d.outside := by
  unfold Dev.reform; dsimp only; split <;> simp

@[simp] theorem Dev.sendUpdate_outside (n : SlotNo) (d : Dev) : (d.sendUpdate n).outside = d.outside := rfl

@[simp] theorem Dev.sendUpdates_outside (d : Dev) : d.sendUpdates.outside = d.outside :=
  foldl_keeps Dev.outside _ (by intro a b; split <;> simp) _ _

@[simp] theorem Dev.distribute_outside (d : Dev) : d.distribute.outside = d.outside := by
  unfold Dev.distribute; split <;> simp

/-- The end of an event reaches nothing outside. -/
@[simp] theorem Dev.settle_outside (d : Dev) : d.settle.outside = d.outside := by
  unfold Dev.settle; dsimp only; split <;> simp

/-- The end of an event leaves no work. -/
@[simp] theorem Dev.settle_work (d : Dev) : d.settle.work = {} := rfl

/-- With no work left the end of an event does nothing. -/
theorem Dev.settle_idle (d : Dev) (h : d.work = {}) : d.settle = d := by
  have h1 : d.runReclaims = d := by simp [Dev.runReclaims, h]
  have h2 : d.restorePass = d := by simp [Dev.restorePass, h]
  have h3 : d.compile = d := by simp [Dev.compile, h]
  have h4 : d.distribute = d := by simp [Dev.distribute, h]
  have h5 : d.settle = { d with work := {} } := by simp [Dev.settle, h, h1, h2, h3, h4]
  rw [h5, ← h]

/-- An evaluation that finds allocated above available sheds (R42). -/
theorem Dev.evaluate_over (d : Dev) (h : d.figureRaw.figureRest.over = true) : d.evaluate = d.figureRaw.figureRest.shed := by
  simp only [Dev.evaluate, h, if_true]

/-- Any other clears overcommit and gives back from the restore queue (R42). -/
theorem Dev.evaluate_fits (d : Dev) (h : d.figureRaw.figureRest.over = false) :
    let e := d.figureRaw.figureRest
    d.evaluate = Dev.restoreList e.pbu.restoreQ { e with pbu := { e.pbu with overcommit := false } } := by
  simp only [Dev.evaluate, h, Bool.false_eq_true, if_false]

/-- A budget evaluation reaches nothing outside but the PBU's figures. -/
theorem Dev.evaluate_outside (d : Dev) :
    ({ d.evaluate with pbu := d.pbu } : Dev).outside = d.outside := by
  have f : ∀ e : Dev, e.shed.outside = e.outside := Dev.shed_outside
  have g : ∀ e : Dev, ({ e with pbu := d.pbu } : Dev).outside = { e.outside with pbu := d.outside.pbu } := fun _ => rfl
  have r : { d.figureRaw.outside with pbu := d.outside.pbu } = d.outside := by
    unfold Dev.figureRaw; dsimp only; split <;> rfl
  unfold Dev.evaluate; dsimp only; split
  · rw [g, f]; exact r
  · rw [g, Dev.restoreList_outside]; exact r

/-! ## Notices and transmitters -/

/-- Forming a notice and starting a transmitter change only the links and the classes. -/
theorem Dev.formNotice_frame (d : Dev) : { d.formNotice with mli := d.mli, atc := d.atc } = d := by
  have k : ∀ (ts : List Link) (n : Notice) (e : Dev), e.atc = d.atc → { e with mli := d.mli, atc := d.atc } = d →
      { ts.foldl (fun d l => d.modLink l fun r => { r with notice := some n }) e with mli := d.mli, atc := d.atc } = d := by
    intro ts n
    induction ts with
    | nil => intro e _ h; exact h
    | cons l ls ih => intro e ha h; exact ih _ (by simpa using ha) (by cases l <;> exact h)
  unfold Dev.formNotice; dsimp only; split
  · split
    · exact k _ _ _ rfl rfl
    · rfl
  · rfl

/-- The notices at the end of an event, and what goes on the lines, change only the links and the classes. -/
theorem Dev.pump_frame (d : Dev) : { d.pump with mli := d.mli, atc := d.atc } = d := by
  have s : ∀ e : Dev, { e.startTxs with mli := d.mli, atc := d.atc } = { e with mli := d.mli, atc := d.atc } := fun _ => rfl
  have n : ∀ e : Dev, { e.formNotice with mli := d.mli, atc := d.atc } = { e with mli := d.mli, atc := d.atc } := by
    intro e
    have h := Dev.formNotice_frame e
    calc ({ e.formNotice with mli := d.mli, atc := d.atc } : Dev)
        = { ({ e.formNotice with mli := e.mli, atc := e.atc } : Dev) with mli := d.mli, atc := d.atc } := rfl
      _ = _ := by rw [h]
  unfold Dev.pump
  rw [s, n, s, n]

/-! ## The shapes of an event -/

/-- An event of a part that runs. -/
theorem State.event_runs (f : Dev → Dev) (s : State) (h : s.dev.hold = none) :
    s.event f = .next { s with dev := (f s.dev).finish } := by simp [State.event, h]

/-- An event of a part held in reset. -/
theorem State.event_held (f : Dev → Dev) (s : State) (h : s.dev.hold ≠ none) : s.event f = .next s := by
  simp [State.event, Option.isSome_iff_ne_none.mpr h]

/-- An event of an input line of a part that runs. -/
theorem State.lineEvent_runs (g f : Dev → Dev) (s : State) (h : s.dev.hold = none) :
    s.lineEvent g f = .next { s with dev := (f (g s.dev)).finish } := by simp [State.lineEvent, h]

/-- An event of an input line of a part held in reset: the level alone. -/
theorem State.lineEvent_held (g f : Dev → Dev) (s : State) (h : s.dev.hold ≠ none) :
    s.lineEvent g f = .next { s with dev := g s.dev } := by
  simp [State.lineEvent, Option.isSome_iff_ne_none.mpr h]

/-- The end of an event of a part that runs and has no work left. -/
theorem Dev.finish_idle (d : Dev) (h : d.hold = none) (w : d.work = {}) : d.finish = d.pump := by
  simp [Dev.finish, h, Dev.settle_idle d w]

/-! ## The service of a request -/

/-- A request row that finds its frame. -/
theorem serve_frame (ty : Byte) (l : Link) (owner : Owner) (s : State) (f : Frame) (h : s.dev.hold = none)
    (hf : s.dev.toServe l = some f) (ht : f.ty = ty) :
    serve ty l owner s = .next { s with dev := s.dev.serveFrame l f owner } := by simp [serve, h, hf, ht]

/-- A request row that finds no frame, or another. -/
theorem serve_none (ty : Byte) (l : Link) (owner : Owner) (s : State) (h : ∀ f ∈ s.dev.toServe l, f.ty ≠ ty) :
    serve ty l owner s = .next s := by
  cases hf : s.dev.toServe l with
  | none => simp [serve, hf]
  | some f => simp [serve, hf, h f (by simp [hf])]

/-- What serving a frame does when the checks end in an answer that leaves no work. -/
theorem Dev.serveFrame_now (l : Link) (f : Frame) (owner : Owner) (d e : Dev) (st : Status) (items : Dev → List Item)
    (h : judgeRequest l f owner d = (e, .now st items)) (w : e.work = {}) :
    d.serveFrame l f owner = e.replied l f st (items e) := by
  simp [Dev.serveFrame, h, Dev.conclude, Dev.replied, Dev.settle_idle e w]

/-- A request without a condition block that passes R171's checks comes to its owner. -/
theorem judgeRequest_passes (l : Link) (f : Frame) (owner : Owner) (d : Dev) (b : List Byte)
    (hs : f.split.map (·.2) = some b) (hc : f.hasCond = false) (hn : ownNeed f.ty b ≤ b.length)
    (hm : d.mayServe l f.ty b = true) : judgeRequest l f owner d = runOwner l owner none b d := by
  cases h : f.split with
  | none => simp [h] at hs
  | some x =>
    obtain ⟨blk, b'⟩ := x
    have : b' = b := by simpa [h] using hs
    subst this
    simp [judgeRequest, h, hc, hm, Nat.not_lt.mpr hn]

/-- A request whose condition block passes comes to its owner with the block. -/
theorem judgeRequest_cond (l : Link) (f : Frame) (owner : Owner) (d : Dev) (b : List Byte) (k : Cond)
    (hs : f.split.map (·.2) = some b) (hk : f.cond = some k) (ht : condTypes.contains f.ty = true)
    (hn : ownNeed f.ty b ≤ b.length) (hm : d.mayServe l f.ty b = true) (hw : d.failing l k = []) :
    judgeRequest l f owner d = runOwner l owner (some k) b d := by
  have hc : f.hasCond = true := by
    cases h : f.hasCond with
    | true => rfl
    | false => simp [Frame.cond, h] at hk
  cases h : f.split with
  | none => simp [h] at hs
  | some x =>
    obtain ⟨blk, b'⟩ := x
    have e : b' = b := by simpa [h] using hs
    subst e
    have hb : blockOf blk = some k := by simpa [Frame.cond, hc, h] using hk
    simp only [judgeRequest, h, if_neg (Nat.not_lt.mpr hn), if_pos hc, if_pos ht, hb, if_pos hm, hw, List.isEmpty_nil, if_true]

/-! ## The turns of a sweep -/

/-- The turns that come next: all that `Sweep.advance` changes, channel by channel (R1, entry 6). -/
theorem Sweep.advance_spec (cur : Vector ChanRec 8) (temp : Vector ChanRec 16) (sw : Sweep) (n : Nat) (rest : List Nat)
    (h : sw.later = n :: rest) :
    let w := sw.advance cur temp
    w.readings = sw.readings ∧ w.come = sw.come + n ∧ w.later = rest ∧
      (∀ c : SlotNo, w.cur[c.val] =
        if sw.come ≤ c.val ∧ c.val < sw.come + n then turnTaken cur[c.val].enabled else sw.cur[c.val]) ∧
      ∀ i : Fin 16, w.temp[i.val] =
        if sw.come ≤ 8 + i.val ∧ 8 + i.val < sw.come + n then turnTaken temp[i.val].enabled else sw.temp[i.val] := by
  simp [Sweep.advance, h]

@[simp] theorem Sweep.advance_done (cur : Vector ChanRec 8) (temp : Vector ChanRec 16) (sw : Sweep) (h : sw.later = []) :
    sw.advance cur temp = sw := by simp [Sweep.advance, h]

end Sys2Proof.Machine
end

