-- ==== Sys2Proof/Laws/PerInstr.lean ====
section
/-! SUPPORT. What every row of the table is as syntax, one lemma per constructor: a row that serves a request is well formed
whatever its link, begins or ends no reset, and its type is one of section 12.4's codes. -/

namespace Sys2Proof.Laws.RequestRow

open Machine

/-- A row that serves a request has no ill-formed operand, is no reset row, and names a code of section 12.4. -/
def Statement (i : Instr) : Prop :=
  ∀ l ty, i.request = some (l, ty) → i.wellFormed = true ∧ i.isReset = false ∧ ty ∈ requestTypes

/-- A row that serves no request. -/
theorem of_none {i : Instr} (h : i.request = none) : Statement i := fun l ty e => by rw [h] at e; cases e

/-- A row that serves the request of one code. -/
theorem of_some {i : Instr} {k : Link} {c : Byte} (h : i.request = some (k, c)) (hw : i.wellFormed = true)
    (hr : i.isReset = false) (hc : c ∈ requestTypes) : Statement i := fun l ty e => by
  rw [h] at e; cases e; exact ⟨hw, hr, hc⟩

theorem powerOnReset : Statement .powerOnReset := of_none rfl
theorem supplyDip : Statement .supplyDip := of_none rfl
theorem externalReset : Statement .externalReset := of_none rfl
theorem supervisorRestartReset : Statement .supervisorRestartReset := of_none rfl
theorem resetEnd : Statement .resetEnd := of_none rfl
theorem sweepStart (r : Readings) (turns : List Nat) : Statement (.sweepStart r turns) := of_none rfl
theorem sweepEnd (order : List PubAction) : Statement (.sweepEnd order) := of_none rfl
theorem sensorRead (l : Link) : Statement (.sensorRead l) := of_some rfl rfl rfl (by decide)
theorem sensorConfigure (l : Link) : Statement (.sensorConfigure l) := of_some rfl rfl rfl (by decide)
theorem thresholdSet (l : Link) : Statement (.thresholdSet l) := of_some rfl rfl rfl (by decide)
theorem referenceStatus (l : Link) : Statement (.referenceStatus l) := of_some rfl rfl rfl (by decide)
theorem tachometerEdge (f : Fin 6) : Statement (.tachometerEdge f) := of_none rfl
theorem controlPeriod : Statement .controlPeriod := of_none rfl
theorem trayRemoved (t : Fin 3) : Statement (.trayRemoved t) := of_none rfl
theorem trayInserted (t : Fin 3) : Statement (.trayInserted t) := of_none rfl
theorem trayCountdownExpiry (t : Fin 3) : Statement (.trayCountdownExpiry t) := of_none rfl
theorem groupSet (l : Link) : Statement (.groupSet l) := of_some rfl rfl rfl (by decide)
theorem curveSet (l : Link) : Statement (.curveSet l) := of_some rfl rfl rfl (by decide)
theorem fanRatingSet (l : Link) : Statement (.fanRatingSet l) := of_some rfl rfl rfl (by decide)
theorem coolingRead (l : Link) : Statement (.coolingRead l) := of_some rfl rfl rfl (by decide)
theorem supplyPresenceRise (b : BayNo) : Statement (.supplyPresenceRise b) := of_none rfl
theorem supplyPresenceFall (b : BayNo) : Statement (.supplyPresenceFall b) := of_none rfl
theorem supplyPowerGoodRise (b : BayNo) : Statement (.supplyPowerGoodRise b) := of_none rfl
theorem supplyPowerGoodFall (b : BayNo) : Statement (.supplyPowerGoodFall b) := of_none rfl
theorem supplyFaultAssert (b : BayNo) : Statement (.supplyFaultAssert b) := of_none rfl
theorem supplyFaultClear (b : BayNo) : Statement (.supplyFaultClear b) := of_none rfl
theorem supplyWaitExpiry (b : BayNo) : Statement (.supplyWaitExpiry b) := of_none rfl
theorem supplySet (l : Link) : Statement (.supplySet l) := of_some rfl rfl rfl (by decide)
theorem budgetModeSet (l : Link) : Statement (.budgetModeSet l) := of_some rfl rfl rfl (by decide)
theorem reserveSet (l : Link) : Statement (.reserveSet l) := of_some rfl rfl rfl (by decide)
theorem budgetRead (l : Link) : Statement (.budgetRead l) := of_some rfl rfl rfl (by decide)
theorem slotPresenceRise (s : SlotNo) : Statement (.slotPresenceRise s) := of_none rfl
theorem slotRemoval (s : SlotNo) : Statement (.slotRemoval s) := of_none rfl
theorem slotPowerGoodRise (s : SlotNo) : Statement (.slotPowerGoodRise s) := of_none rfl
theorem slotPowerGoodFall (s : SlotNo) : Statement (.slotPowerGoodFall s) := of_none rfl
theorem hotSwapFaultAssert (s : SlotNo) (holds : Bool) : Statement (.hotSwapFaultAssert s holds) := of_none rfl
theorem rampTimerExpiry (s : SlotNo) : Statement (.rampTimerExpiry s) := of_none rfl
theorem retryTimerExpiry (s : SlotNo) : Statement (.retryTimerExpiry s) := of_none rfl
theorem stableTimerExpiry (s : SlotNo) : Statement (.stableTimerExpiry s) := of_none rfl
theorem slotPowerOn (l : Link) : Statement (.slotPowerOn l) := of_some rfl rfl rfl (by decide)
theorem slotPowerOff (l : Link) : Statement (.slotPowerOff l) := of_some rfl rfl rfl (by decide)
theorem slotUnlock (l : Link) : Statement (.slotUnlock l) := of_some rfl rfl rfl (by decide)
theorem slotConfigure (l : Link) : Statement (.slotConfigure l) := of_some rfl rfl rfl (by decide)
theorem slotRead (l : Link) : Statement (.slotRead l) := of_some rfl rfl rfl (by decide)
theorem slotLinkBadFrame (s : SlotNo) : Statement (.slotLinkBadFrame s) := of_none rfl
theorem slotLinkGapTimeout (s : SlotNo) : Statement (.slotLinkGapTimeout s) := of_none rfl
theorem slotStatus (s : SlotNo) (wire : List Byte) : Statement (.slotStatus s wire) := of_none rfl
theorem updateAck (s : SlotNo) (wire : List Byte) : Statement (.updateAck s wire) := of_none rfl
theorem slotLinkOtherFrame (s : SlotNo) (wire : List Byte) : Statement (.slotLinkOtherFrame s wire) := of_none rfl
theorem portConfigure (l : Link) : Statement (.portConfigure l) := of_some rfl rfl rfl (by decide)
theorem portActivate (l : Link) : Statement (.portActivate l) := of_some rfl rfl rfl (by decide)
theorem portDeactivate (l : Link) : Statement (.portDeactivate l) := of_some rfl rfl rfl (by decide)
theorem portResume (l : Link) : Statement (.portResume l) := of_some rfl rfl rfl (by decide)
theorem portRead (l : Link) : Statement (.portRead l) := of_some rfl rfl rfl (by decide)
theorem graceExpiry (t : Tier) : Statement (.graceExpiry t) := of_none rfl
theorem minuteTick : Statement .minuteTick := of_none rfl
theorem certExpiry (place : Fin 16) : Statement (.certExpiry place) := of_none rfl
theorem counterSaveComplete (ok : Bool) : Statement (.counterSaveComplete ok) := of_none rfl
theorem repairWriteComplete (ok : Bool) : Statement (.repairWriteComplete ok) := of_none rfl
theorem certInstall (l : Link) : Statement (.certInstall l) := of_some rfl rfl rfl (by decide)
theorem certInstallComplete (ok : Bool) : Statement (.certInstallComplete ok) := of_none rfl
theorem certRemove (l : Link) : Statement (.certRemove l) := of_some rfl rfl rfl (by decide)
theorem certRemoveComplete (ok : Bool) : Statement (.certRemoveComplete ok) := of_none rfl
theorem licenseRead (l : Link) : Statement (.licenseRead l) := of_some rfl rfl rfl (by decide)
theorem graceSet (l : Link) : Statement (.graceSet l) := of_some rfl rfl rfl (by decide)
theorem zoneBegin (l : Link) : Statement (.zoneBegin l) := of_some rfl rfl rfl (by decide)
theorem zonePut (l : Link) : Statement (.zonePut l) := of_some rfl rfl rfl (by decide)
theorem zoneDelete (l : Link) : Statement (.zoneDelete l) := of_some rfl rfl rfl (by decide)
theorem zoneDefault (l : Link) : Statement (.zoneDefault l) := of_some rfl rfl rfl (by decide)
theorem zoneAbort (l : Link) : Statement (.zoneAbort l) := of_some rfl rfl rfl (by decide)
theorem zoneCommit (l : Link) : Statement (.zoneCommit l) := of_some rfl rfl rfl (by decide)
theorem zoneRead (l : Link) : Statement (.zoneRead l) := of_some rfl rfl rfl (by decide)
theorem nodeAttach (l : Link) : Statement (.nodeAttach l) := of_some rfl rfl rfl (by decide)
theorem nodeDetach (l : Link) : Statement (.nodeDetach l) := of_some rfl rfl rfl (by decide)
theorem nodeRead (l : Link) : Statement (.nodeRead l) := of_some rfl rfl rfl (by decide)
theorem permissionUpdateSent (s : SlotNo) : Statement (.permissionUpdateSent s) := of_none rfl
theorem responseTimerExpiry (s : SlotNo) : Statement (.responseTimerExpiry s) := of_none rfl
theorem resendTimerExpiry (s : SlotNo) : Statement (.resendTimerExpiry s) := of_none rfl
theorem enforcementRead (l : Link) : Statement (.enforcementRead l) := of_some rfl rfl rfl (by decide)
theorem watchRead (l : Link) : Statement (.watchRead l) := of_some rfl rfl rfl (by decide)
theorem watchRelease (l : Link) : Statement (.watchRelease l) := of_some rfl rfl rfl (by decide)
theorem watchList (l : Link) : Statement (.watchList l) := of_some rfl rfl rfl (by decide)
theorem linkFrameReceived (l : Link) (wire : List Byte) : Statement (.linkFrameReceived l wire) := of_none rfl
theorem linkBadFrame (l : Link) : Statement (.linkBadFrame l) := of_none rfl
theorem linkGapTimeout (l : Link) : Statement (.linkGapTimeout l) := of_none rfl
theorem linkBreak (l : Link) : Statement (.linkBreak l) := of_none rfl
theorem breakEnd (l : Link) : Statement (.breakEnd l) := of_none rfl
theorem linkTransmitEnd (l : Link) : Statement (.linkTransmitEnd l) := of_none rfl
theorem unknownRequest (l : Link) : Statement (.unknownRequest l) := of_none rfl
theorem identify (l : Link) : Statement (.identify l) := of_some rfl rfl rfl (by decide)
theorem linkStatus (l : Link) : Statement (.linkStatus l) := of_some rfl rfl rfl (by decide)
theorem resetCauseRead (l : Link) : Statement (.resetCauseRead l) := of_some rfl rfl rfl (by decide)
theorem supervisorRestart (l : Link) : Statement (.supervisorRestart l) := of_some rfl rfl rfl (by decide)
theorem masterClaim (l : Link) : Statement (.masterClaim l) := of_some rfl rfl rfl (by decide)
theorem masterRelease (l : Link) : Statement (.masterRelease l) := of_some rfl rfl rfl (by decide)
theorem standbyRegister (l : Link) : Statement (.standbyRegister l) := of_some rfl rfl rfl (by decide)
theorem heartbeat (l : Link) : Statement (.heartbeat l) := of_some rfl rfl rfl (by decide)
theorem heartbeatWindowSet (l : Link) : Statement (.heartbeatWindowSet l) := of_some rfl rfl rfl (by decide)
theorem masterDeadlineExpiry : Statement .masterDeadlineExpiry := of_none rfl
theorem standbyLapse (l : Link) : Statement (.standbyLapse l) := of_none rfl
theorem uptimeTick : Statement .uptimeTick := of_none rfl
theorem alertRead (l : Link) : Statement (.alertRead l) := of_some rfl rfl rfl (by decide)
theorem alertClear (l : Link) : Statement (.alertClear l) := of_some rfl rfl rfl (by decide)
theorem alertEnable (l : Link) : Statement (.alertEnable l) := of_some rfl rfl rfl (by decide)
theorem frameStartByte (r : RxLine) : Statement (.frameStartByte r) := of_none rfl
theorem lineFallsLow (l : Link) : Statement (.lineFallsLow l) := of_none rfl
theorem lineRisesBeforeBreak (l : Link) : Statement (.lineRisesBeforeBreak l) := of_none rfl
theorem supplyFallInResetHold : Statement .supplyFallInResetHold := of_none rfl

end Sys2Proof.Laws.RequestRow
end

