-- ==== Sys2Proof/Tests/Slice0.lean ====
section
/-! SUPPORT. The model's own tests: ill-formed commands refused, the state after reset, a witness for the hypotheses of each
statement, and small tests of the commands with results worked out by hand from the rules. -/

namespace Sys2Proof.Tests

open Machine

-- one theorem at a time, so that the kernel's evaluations do not stand in memory together
set_option Elab.async false

/-! ## A part at work -/

/-- Slots in every state: 0 and 7 POWERED, 1 OFF, 2 QUEUED behind 3, which ramps, 4 in RETRY_WAIT, 5 LOCKED_OUT, 6 EMPTY. -/
def rigSlot (n : Fin 8) : SlotRec :=
  match n.val with
  | 0 => { present := true, state := .powered, enable := true, stable := some 100, statusSeen := true, attempts := 1 }
  | 1 => { present := true, state := .off }
  | 2 => { present := true, state := .queued }
  | 3 => { present := true, state := .powering, enable := true, ramp := some 1500 }
  | 4 => { present := true, state := .retryWait, cause := some .fault, attempts := 1, retry := some 10000 }
  | 5 => { present := true, state := .lockedOut, cause := some .lockout, attempts := 3 }
  | 6 => {}
  | _ => { present := true, state := .powered, enable := true, stable := some 900 }

/-- Ports in every state: 0 and 8's neighbours of slot 0, and one SUSPENDED on slot 4. -/
def rigPort (p : Fin 64) : PortRec :=
  match p.val with
  | 0 => { optic := some 0, seated := some 0, state := .active, seat := .base, admitted := some (classPower 0), priority := 3 }
  | 1 => { optic := some 1, seated := some 1, state := .held, seat := .base }
  | 2 => { optic := some 2, seated := some 2, state := .shed, seat := .borrowed }
  | 3 => { optic := some 3 }
  | 5 => { optic := some 1, seated := some 1, state := .active, seat := .base, admitted := some (classPower 1), priority := 1 }
  | 32 => { seated := some 0, state := .suspended, seat := .base }
  | _ => {}

/-- A part at work, one second after its reset, with link A master. -/
def rig : Dev :=
  { Dev.atReset with
    now := 1000
    clc := { ({} : Clc) with trays := Vector.ofFn fun i : Fin 3 => if i.val = 2 then ⟨false, .running 121000⟩ else {} }
    pbu := { ({} : Pbu) with
      supplies := Vector.ofFn fun b : Fin 4 => match b.val with
        | 0 => { state := .online, capacity := 4000 }
        | 1 => { state := .starting, capacity := 2000, wait := some 2500 }
        | 2 => { state := .faulted, capacity := 2000 }
        | _ => {}
      raw := 4000, available := 3000, allocated := 1900 + classPower 0 + classPower 1
      heldBase := Vector.ofFn fun n : Fin 8 => if (rigSlot n).state.holdsBase then some 300 else none
      restoreQ := [2] }
    perm := { eligible := 0x21 }
    spc := { slots := Vector.ofFn rigSlot, queue := [2] }
    ptc := { ports := Vector.ofFn rigPort }
    lcu := { ({} : Lcu) with
      table := Vector.ofFn fun i : Fin 16 =>
        if i.val = 0 then some ⟨⟨9, .base, 4, 3, 5, 6⟩, false, 1⟩ else none
      base := { total := 4, held := 4 }, high := { total := 0, held := 1, grace := .running 2 }, borrowers := [2]
      counter := 2 }
    zne := { ({} : Zne) with
      zones := [⟨⟨3, [.node 77, .port 5]⟩, 2⟩], gen := 1, stamp := 3, nodes := [⟨77, 0, 4⟩] }
    edu := { steps := Vector.ofFn fun n : Fin 8 => match n.val with
      | 0 => { state := .inStep, acked := some 0, sent := some 0 }
      | 7 => { state := .sending, sent := some 0, response := some 1050 }
      | _ => {} }
    wtb := { next := 20, idCounter := 2, entries := [⟨1, .a, .slot, 1, 0⟩] }
    atc := {}
    mli := { a := { deadline := some 4000 }, b := { standby := true, deadline := some 3500 } }
    msa := { master := some .a } }

theorem rig_running : rig.hold = none ∧ rig.work = {} := by decide +kernel

theorem rig_sound : rig.sound := by and_intros <;> decide +kernel

/-- The part at work with one frame waiting on link A. -/
def ask (ty : Byte) (b : List Byte) : Dev := rig.modLink .a fun r => { r with queue := [⟨ty, 7, 0, b⟩] }

theorem ask_sound (ty : Byte) (b : List Byte) : (ask ty b).sound := rig_sound


/-- The part at work with `f` waiting on link A. -/
def asked (f : Frame) : Dev := rig.modLink .a fun r => { r with queue := [f] }

/-- The part after a command. -/
def after (c : Instr) (d : Dev) : Dev :=
  match exec c ⟨d, []⟩ with
  | .next t => t.dev
  | _ => d

/-- The status code and the fields of link A's newest reply after a command. -/
def said (c : Instr) (d : Dev) : Option (Nat × List Nat) := ((after c d).newest .a).map fun r => (r.status.code, r.items.map (·.val))

/-- What link A is answered to a request with a body. -/
def told (c : Instr) (ty : Byte) (b : List Byte) : Option (Nat × List Nat) := said c (ask ty b)

/-! ## Ill-formed commands -/

/-- Readings of a sweep in which both references pass. -/
def readings : Readings := ⟨64, 4032, Vector.ofFn fun _ => 100, Vector.ofFn fun i => if i.val = 15 then none else some 50⟩

theorem test_ill_formed_turns : (Instr.sweepStart readings [20, 5]).wellFormed = false := by decide
theorem test_well_formed_turns : (Instr.sweepStart readings [20, 4]).wellFormed = true := by decide
theorem test_ill_formed_order : (Instr.sweepEnd [.budget, .budget]).wellFormed = false := by decide
theorem test_ill_formed_frame : (Instr.linkFrameReceived .a [1, 2, 0]).wellFormed = false := by decide
theorem test_ill_formed_status : (Instr.slotStatus 0 (Frame.wire ⟨0xE1, 0, 0, [0, 0, 0, 0]⟩)).wellFormed = false := by
  decide +kernel
theorem test_ill_formed_ack : (Instr.updateAck 0 (Frame.wire ⟨0xE1, 0, 0, [0, 0, 0]⟩)).wellFormed = false := by decide +kernel
theorem test_ill_formed_other : (Instr.slotLinkOtherFrame 0 (Frame.wire ⟨0xE1, 0, 0, [0, 0, 0, 0]⟩)).wellFormed = false := by
  decide +kernel

/-! ## Frames and figures -/

/-- The CRC of R186 over the digits 1 to 9 is 29B1 in hexadecimal, the check value of the polynomial and start it names. -/
theorem test_crc : crc16 [0x31, 0x32, 0x33, 0x34, 0x35, 0x36, 0x37, 0x38, 0x39] = 0x29B1 := by decide +kernel

/-- Section 12.2: -5 in two bytes. -/
theorem test_twos : twos 2 (-5) = 0xFFFB := by decide

/-- R7: with k = 1 the samples 1, 1, 2, 2 have the sum 6, and 1.5 rounds up to 2. -/
theorem test_average : ({ acc := 4, count := 3 } : ChanRec).deliver (.value 2) =
    ({ recent := .value 2, published := .value 2 }, true) := by decide

/-- R11: 84 is inside the hysteresis of 90 - 6 and 83 below it, where WARNING at 80 still holds. -/
theorem test_level_falls :
    ({ warning := 80, critical := 90, shutdown := 100, level := .critical } : LimitRec).judge 84 = .critical ∧
      ({ warning := 80, critical := 90, shutdown := 100, level := .critical } : LimitRec).judge 83 = .warning := by decide

/-! ## Resets -/

/-- The first power-on reset of a part whose lines are low and whose store was never written ends in the state after reset. -/
theorem test_reset : ((({} : Dev).beginReset .power).endReset).finish = Dev.atReset := by decide +kernel

theorem test_power_on_reset : (after .powerOnReset rig).hold = some { supply := some 1004 } := by decide +kernel
theorem test_supply_dip : (after .supplyDip rig).causes = { power := true, dip := true } := by decide +kernel
theorem test_external_reset : (after .externalReset rig).hold = some { ext := true } := by decide +kernel

/-- R103: a write in flight is torn by a reset. -/
theorem test_reset_tears : (after .externalReset { rig with lcu := { rig.lcu with op := some (.save 7) } }).store.counter = .torn := by
  decide +kernel

theorem test_hold_fall : (after .supplyFallInResetHold { (after .supplyDip rig) with now := 1003 }).hold =
    some { supply := some 1007 } := by decide +kernel

theorem test_restart_reset :
    (after .supervisorRestartReset (rig.modLink .a fun r => { r with tx := some (.reply ⟨9, 1, .ok, []⟩) })).hold =
      some { restart := some 1001 } := by decide +kernel

/-- R77, R123: a slot whose presence line is high is OFF, and a counter record is loaded. -/
theorem test_reset_end :
    let d := after .resetEnd { hold := some {}, lines := ({} : Dev).setSlotPresence 3 true |>.lines, store := { counter := .whole 9 } }
    (d.slot 3).state = .off ∧ (d.slot 2).state = .empty ∧ d.lcu.counter = 9 := by decide +kernel

/-! ## Sensors -/

/-- The part with a sweep of the readings above, every turn taken. -/
def sweeping : Dev := after (.sweepStart readings [24]) rig

theorem test_sweep_start : (sweeping.ssu.sweep.map fun w => (w.cur[7], w.temp[15])) = some (.taken, .taken) := by decide +kernel

/-- R6, R4: C0 holds one sample of 100, T15 gave no answer. -/
theorem test_sweep_end :
    let d := after (.sweepEnd []) sweeping
    d.ssu.cur[0].acc = 100 ∧ d.ssu.temp[15].recent = .nar ∧ d.ssu.hiPass = true ∧ d.ssu.sweep = none := by decide +kernel

/-- R1: a channel that SENSOR CONFIGURE enables in mid sweep is acquired when its turn is still to come, and not when it passed. -/
theorem test_turn_order :
    let off : Dev := (ask 0x11 [5, 1, 1]).modCur 5 fun r => { r with enabled := false }
    let turn (n : Nat) : Option Turn :=
      (after (.sensorConfigure .a) (after (.sweepStart readings [n, 24 - n]) off)).ssu.sweep.map (·.cur[5])
    turn 6 = some .skipped ∧ turn 5 = some .taken := by decide +kernel

theorem test_sensor_read : told (.sensorRead .a) 0x10 [15] = some (0x12, []) := by decide +kernel
theorem test_sensor_configure : told (.sensorConfigure .a) 0x11 [31, 1, 9] = some (1, [1, 3]) := by decide +kernel

/-- R16: warning 100 raises a critical of 90 to 100; 60 clamps to 40. -/
theorem test_threshold_set : told (.thresholdSet .a) 0x12 [16, 0, 100, 0, 90, 0, 110, 60] = some (1, [100, 100, 110, 40]) := by
  decide +kernel

theorem test_reference_status : told (.referenceStatus .a) 0x13 [16] = some (0x12, []) := by decide +kernel

/-! ## Cooling -/

theorem test_tachometer : (after (.tachometerEdge 5) rig).clc.fans[5].edges = 1 := by decide +kernel

/-- R20, R27: the fans turned at no speed in the gate, and tray 2 is out, so the demand is 100. -/
theorem test_control_period :
    let d := after .controlPeriod rig
    d.clc.gateEnd = 2000 ∧ d.clc.groups[0].duty = 100 ∧ d.clc.fans[0].measured = some 0 := by decide +kernel

theorem test_tray_removed : (after (.trayRemoved 1) rig).clc.trays[1] = ⟨false, .running 121000⟩ := by decide +kernel
theorem test_tray_inserted : (after (.trayInserted 2) rig).clc.fans[4].reentry = true := by decide +kernel
theorem test_tray_expiry : (after (.trayCountdownExpiry 2) rig).slot 0 =
    { rigSlot 0 with state := .off, cause := some .cooling, enable := false, stable := none, attempts := 0, stamp := 20 } := by
  decide +kernel
theorem test_group_set : told (.groupSet .a) 0x19 [0, 0, 0, 0, 0, 0, 0, 0, 0, 0, 0, 0, 0] = some (0x12, []) := by decide +kernel
theorem test_curve_set : told (.curveSet .a) 0x18 [16, 0, 50, 0, 50] = some (1, [50, 51]) := by decide +kernel
theorem test_fan_rating : told (.fanRatingSet .a) 0x1A [0, 0, 0] = some (1, [1200]) := by decide +kernel
theorem test_cooling_read : told (.coolingRead .a) 0x1B [2] = some (0x12, []) := by decide +kernel

/-! ## Power -/

theorem test_supply_presence_rise : ((after (.supplyPresenceRise 3) rig).supply 3).state = .starting := by decide +kernel
theorem test_supply_presence_fall : ((after (.supplyPresenceFall 0) rig).pbu.available, (after (.supplyPresenceFall 0) rig).pbu.raw) = (0, 0) := by
  decide +kernel
theorem test_supply_good_rise : (after (.supplyPowerGoodRise 2) rig).supply 2 = { state := .starting, capacity := 2000, wait := some 3000, stamp := 20 } := by
  decide +kernel
theorem test_supply_good_fall : ((after (.supplyPowerGoodFall 1) rig).supply 1).wait = none := by decide +kernel
theorem test_supply_fault : ((after (.supplyFaultAssert 0) rig).supply 0).state = .faulted := by decide +kernel
theorem test_supply_fault_clear :
    ((after (.supplyFaultClear 2) (rig.setSupplyPowerGood 2 true)).supply 2).wait = some 3000 := by decide +kernel

/-- R38, R40: bay 1 comes online, so raw available is 6000; with no inlet average the derate is 25. -/
theorem test_supply_wait : ((after (.supplyWaitExpiry 1) rig).pbu.raw, (after (.supplyWaitExpiry 1) rig).pbu.available) = (6000, 4500) := by
  decide +kernel

theorem test_supply_set : told (.supplySet .a) 0x20 [4, 0, 0] = some (0x12, []) := by decide +kernel
theorem test_budget_mode : told (.budgetModeSet .a) 0x21 [3] = some (0x12, []) := by decide +kernel
theorem test_reserve_set : (told (.reserveSet .a) 0x22 [0, 0, 0, 0]).map (·.1) = some 0 := by decide +kernel
theorem test_budget_read : (told (.budgetRead .a) 0x23 []).map (·.1) = some 0 := by decide +kernel

/-! ## Slots -/

theorem test_slot_presence : ((after (.slotPresenceRise 6) rig).slot 6).state = .off := by decide +kernel
theorem test_slot_removal : ((after (.slotRemoval 0) rig).slot 0).cause = some .removed := by decide +kernel

/-- R61, R60: slot 3 is POWERED and slot 2 starts its ramp. -/
theorem test_slot_good_rise :
    let d := after (.slotPowerGoodRise 3) rig
    (d.slot 3).state = .powered ∧ (d.slot 2).state = .powering ∧ (d.slot 2).ramp = some 1500 ∧ d.spc.queue = [] := by
  decide +kernel

/-- R65: slot 0 has 1 of 3 attempts used, so it waits 10 s; its ACTIVE port is SUSPENDED. -/
theorem test_slot_good_fall :
    let d := after (.slotPowerGoodFall 0) rig
    (d.slot 0).retry = some 11000 ∧ (d.slot 0).attempts = 2 ∧ (d.port 0).state = .suspended := by decide +kernel

theorem test_hot_swap : ((after (.hotSwapFaultAssert 7 false) rig).slot 7).state = .retryWait := by decide +kernel
theorem test_ramp_expiry : ((after (.rampTimerExpiry 3) rig).slot 3).retry = some 11500 := by decide +kernel
theorem test_retry_expiry : (after (.retryTimerExpiry 4) rig).spc.queue = [2, 4] := by decide +kernel
theorem test_stable_expiry : ((after (.stableTimerExpiry 0) rig).slot 0).attempts = 0 := by decide +kernel
theorem test_slot_power_on : told (.slotPowerOn .a) 0x29 [0] = some (0x30, []) := by decide +kernel
theorem test_slot_power_on_admits : said (.slotPowerOn .a) { ask 0x29 [1] with clc := {} } = some (0, [2, 2]) := by decide +kernel
theorem test_slot_power_off : told (.slotPowerOff .a) 0x2A [7] = some (0, [1, 0]) := by decide +kernel
theorem test_slot_unlock : told (.slotUnlock .a) 0x2B [5] = some (0, [1, 6]) := by decide +kernel
theorem test_slot_configure : told (.slotConfigure .a) 0x28 [6, 3, 33, 0, 0, 16, 1, 0, 0, 0] =
    some (1, [800, 0, 15, 1, 1, 1, 0, 0]) := by decide +kernel
theorem test_slot_read : told (.slotRead .a) 0x2C [8] = some (0x12, []) := by decide +kernel
theorem test_slot_bad_frame : ((after (.slotLinkBadFrame 0) rig).slot 0).health = 8 := by decide +kernel
theorem test_slot_gap : ((after (.slotLinkGapTimeout 0) (rig.setSlotRx 0 .inFrame)).slot 0).health = 8 := by decide +kernel

/-- R89: port 0 still shows its seated class and stays ACTIVE; port 1's optic is gone, so it goes OFFLINE. -/
theorem test_slot_status :
    let d := after (.slotStatus 0 (Frame.wire ⟨0xE2, 0, 0, [0x80, 0, 0x82, 0, 0, 0x81, 0, 0]⟩)) rig
    (d.port 0).state = .active ∧ (d.port 1).cause = some .optic ∧ (d.port 3).optic = none := by decide +kernel

theorem test_update_ack : ((after (.updateAck 7 (Frame.wire ⟨0xE1, 0, 0, [0, 0, 0, 0]⟩)) rig).step 7).acked = some 0 := by
  decide +kernel
theorem test_slot_other : ((after (.slotLinkOtherFrame 0 (Frame.wire ⟨0x33, 0, 0, []⟩)) (rig.modSlot 0 fun r => { r with health := 5 })).slot
    0).health = 4 := by decide +kernel

/-! ## Ports and licenses -/

theorem test_port_configure : told (.portConfigure .a) 0x30 [3, 1, 7] = some (1, [1, 3, 0, 0]) := by decide +kernel
theorem test_port_activate : told (.portActivate .a) 0x31 [3] = some (0x40, [0, 0]) := by decide +kernel
theorem test_port_deactivate : told (.portDeactivate .a) 0x32 [0] = some (0, [0, 0]) := by decide +kernel
theorem test_port_resume : told (.portResume .a) 0x33 [1] = some (0, [1, 1]) := by decide +kernel
theorem test_port_read : told (.portRead .a) 0x34 [0, 64] = some (0x12, []) := by decide +kernel

/-- R119: HIGH is one seat short, so the borrower goes OFFLINE. -/
theorem test_grace_expiry : ((after (.graceExpiry .high) rig).port 2).cause = some .license := by decide +kernel

/-- R110: the certificate of expiry 3 expires at minute 3, and BASE has no seat left. -/
theorem test_minute_tick : (after .minuteTick rig).lcu.counter = 3 ∧ (after .minuteTick rig).lcu.base.total = 0 := by decide +kernel

theorem test_cert_expiry : (after (.certExpiry 0) rig).lcu.base.total = 4 := by decide +kernel
theorem test_counter_save : (after (.counterSaveComplete true) { rig with lcu := { rig.lcu with op := some (.save 2) } }).store.counter =
    .whole 2 := by decide +kernel
theorem test_repair_write : (after (.repairWriteComplete false) { rig with lcu := { rig.lcu with op := some (.repairCounter 2) } }).lcu.op =
    none := by decide +kernel
theorem test_cert_install : (told (.certInstall .a) 0x38 (List.replicate 34 0)) = some (0x12, []) := by decide +kernel

/-- R107: the certificate written takes its place, and its 5 seats count. -/
theorem test_cert_install_complete :
    let c : CertData := ⟨10, .high, 5, 0, 0, 0⟩
    let d := after (.certInstallComplete true) { rig with lcu := { rig.lcu with op := some (.install 1 c .a) } }
    d.lcu.high.total = 5 ∧ d.store.certs[1] = .whole c false := by decide +kernel

theorem test_cert_remove : told (.certRemove .a) 0x39 [0, 0, 0, 8] = some (0x31, []) := by decide +kernel
theorem test_cert_remove_complete :
    (after (.certRemoveComplete true) { rig with lcu := { rig.lcu with op := some (.erase 0 .a none) } }).lcu.base.total = 0 := by
  decide +kernel
theorem test_license_read : told (.licenseRead .a) 0x3A [0, 16] = some (0x12, []) := by decide +kernel
theorem test_grace_set : told (.graceSet .a) 0x3B [0xFF, 0xFF] = some (1, [10080, 0, 1]) := by decide +kernel

/-! ## Zoning, enforcement and watches -/

/-- The part at work with a transaction open and a frame waiting on link A. -/
def zoning (ty : Byte) (b : List Byte) : Dev := (ask ty b).setStaged (some ⟨[⟨3, [.node 77, .port 5]⟩], .isolate, 1⟩)

theorem test_zone_begin : told (.zoneBegin .a) 0x40 [] = some (0, [1, 1, 2, 0, 0]) := by decide +kernel
theorem test_zone_put : said (.zonePut .a) (zoning 0x41 [0, 4, 0, 1, 1, 1, 0, 0, 0, 0, 0, 0, 0, 63]) =
    some (0, [4, 0, 2, 3, 0, 0]) := by decide +kernel
theorem test_zone_delete : said (.zoneDelete .a) (zoning 0x42 [0, 9]) = some (0x31, [0, 0]) := by decide +kernel
theorem test_zone_default : said (.zoneDefault .a) (zoning 0x43 [2]) = some (0x12, [0, 0]) := by decide +kernel
theorem test_zone_abort : told (.zoneAbort .a) 0x44 [] = some (0x70, [0, 0]) := by decide +kernel

/-- R133, R138: generation 2, and the two members reach each other. -/
theorem test_zone_commit :
    let d := after (.zoneCommit .a) (zoning 0x45 [])
    d.zne.gen = 2 ∧ inMask d.perm.reach[0] 5 = true ∧ inMask d.perm.reach[5] 0 = true ∧ inMask d.perm.reach[5] 1 = false := by
  decide +kernel

theorem test_zone_read : told (.zoneRead .a) 0x46 [2, 0, 0, 0, 0] = some (0x12, []) := by decide +kernel
theorem test_node_attach : told (.nodeAttach .a) 0x47 [0, 0, 0, 0, 0, 0, 0, 77, 5] = some (0, [5, 20, 0]) := by decide +kernel
theorem test_node_detach : told (.nodeDetach .a) 0x48 [0, 0, 0, 0, 0, 0, 0, 77] = some (0, [0]) := by decide +kernel
theorem test_node_read : told (.nodeRead .a) 0x49 [0, 0, 0, 0, 0, 0, 0, 0, 78] = some (0x31, []) := by decide +kernel
theorem test_update_sent : ((after (.permissionUpdateSent 7) ((rig.modStep 7 fun r => { r with response := none }).modSlot 7 fun r =>
    { r with tx := [⟨0, []⟩] })).step 7).response = some 1050 := by decide +kernel
theorem test_response_expiry : ((after (.responseTimerExpiry 7) rig).step 7).resend = some 2050 := by decide +kernel
theorem test_resend_expiry : ((after (.resendTimerExpiry 7) (rig.modStep 7 fun r =>
    { r with state := .outOfStep, response := none, resend := some 2050 })).slot 7).tx.length = 1 := by decide +kernel
theorem test_enforcement_read : told (.enforcementRead .a) 0x50 [1, 8] = some (0x12, []) := by decide +kernel
theorem test_watch_read : ((told (.watchRead .a) 0x58 [1, 0, 0, 0, 0, 0, 0, 0, 1]).map fun x => (x.1, x.2.take 2)) = some (0, [2, 0]) := by
  decide +kernel
theorem test_watch_release : told (.watchRelease .a) 0x59 [1, 2, 1, 9] = some (0, [1, 1, 1, 9, 0]) := by decide +kernel
theorem test_watch_list : (told (.watchList .a) 0x5A []).map (·.1) = some 0 := by decide +kernel

/-! ## Links, mastership and alerts -/

theorem test_frame_received :
    ((after (.linkFrameReceived .b (Frame.wire ⟨0x10, 4, 0, [2]⟩)) rig).link .b).queue = [⟨0x10, 4, 0, [2]⟩] := by decide +kernel
theorem test_bad_frame : ((after (.linkBadFrame .b) rig).link .b).errs = 8 := by decide +kernel
theorem test_gap : ((after (.linkGapTimeout .b) (rig.setRx .b .inFrame)).link .b).errs = 8 := by decide +kernel

/-- R165: a break of link A removes its watches. -/
theorem test_break : (after (.linkBreak .a) rig).wtb.entries = [] ∧ ((after (.linkBreak .a) rig).link .a).rx = .brk := by decide +kernel

theorem test_break_end : ((after (.breakEnd .a) (after (.linkBreak .a) rig)).link .a).rx = .idle := by decide +kernel
theorem test_transmit_end :
    ((after (.linkTransmitEnd .a) (rig.modLink .a fun r => { r with
      tx := some (.notice ⟨0, 0, none⟩), reply := some ⟨1, 2, .ok, []⟩ })).link .a).tx = some (.reply ⟨1, 2, .ok, []⟩) := by
  decide +kernel
theorem test_unknown_request : told (.unknownRequest .a) 0x77 [1, 2] = some (0x10, []) := by decide +kernel
theorem test_identify : ((told (.identify .a) 0x01 []).map fun x => (x.1, x.2.take 2)) = some (0, [0xD41A, 0x5C40]) := by decide +kernel
theorem test_link_status : told (.linkStatus .a) 0x08 [2] = some (0x12, []) := by decide +kernel
theorem test_reset_cause : told (.resetCauseRead .a) 0x02 [0] = some (0, [1]) := by decide +kernel
theorem test_restart : told (.supervisorRestart .a) 0x09 [] = some (0, []) := by decide +kernel
theorem test_master_claim : said (.masterClaim .a) { ask 0x03 [] with msa := { master := some .b } } = some (0x21, []) := by
  decide +kernel

/-- R176: the registered standby succeeds. -/
theorem test_master_release : (after (.masterRelease .a) (ask 0x04 [])).msa.master = some .b := by decide +kernel

theorem test_standby_register : told (.standbyRegister .a) 0x05 [] = some (0x30, []) := by decide +kernel
theorem test_heartbeat : told (.heartbeat .a) 0x06 [] = some (0, [0, 3000]) := by decide +kernel
theorem test_heartbeat_window : told (.heartbeatWindowSet .a) 0x07 [0, 200, 0, 50] = some (1, [99, 100]) := by decide +kernel
theorem test_master_deadline : (after .masterDeadlineExpiry rig).msa.master = some .b := by decide +kernel
theorem test_standby_lapse : ((after (.standbyLapse .b) rig).link .b).standby = false := by decide +kernel
theorem test_uptime : (after .uptimeTick rig).atc.uptime = 1 := by decide +kernel
theorem test_alert_read : told (.alertRead .a) 0x60 [11] = some (0x12, []) := by decide +kernel
theorem test_alert_clear : (told (.alertClear .a) 0x61 [0xFF]).map (·.1) = some 0 := by decide +kernel
theorem test_alert_enable : ((after (.alertEnable .a) (ask 0x62 [10, 0])).cls 10).notify = false := by decide +kernel
theorem test_start_byte : ((after (.frameStartByte (.mgmt .a)) rig).link .a).rx = .inFrame := by decide +kernel
theorem test_line_falls : (after (.lineFallsLow .b) rig).lines.lowB = true := by decide +kernel
theorem test_line_rises : ((after (.lineRisesBeforeBreak .b) ((rig.setRx .b .inFrame).setLineLow .b true)).link .b).errs = 8 := by
  decide +kernel

/-! ## Witnesses: states and operands that meet the hypotheses of each statement, at the boundaries of its clauses -/

/-- Link A of the part at work is served a request of this type with these fields. -/
abbrev Served (ty : Byte) (b : List Byte) : Prop := (⟨ask ty b, []⟩ : State).takes .a ty ⟨ty, 7, 0, b⟩ b

/-- Link A of a part is served a request of this type with these fields. -/
abbrev ServedBy (d : Dev) (ty : Byte) (b : List Byte) : Prop :=
  (⟨d.modLink .a fun r => { r with queue := [⟨ty, 7, 0, b⟩] }, []⟩ : State).takes .a ty ⟨ty, 7, 0, b⟩ b

theorem witness_StepRunsFront :
    (⟨rig, [.minuteTick, .uptimeTick]⟩ : State).pending = .minuteTick :: [.uptimeTick] ∧ (⟨rig, []⟩ : State).pending = [] := ⟨rfl, rfl⟩

theorem witness_EveryCommandAnswers :
    ({ rig with hold := some {} } : Dev).hold ≠ none ∧ Instr.isReset .minuteTick = false ∧ Instr.isReset (.slotRemoval 7) = false := by
  decide +kernel

/-- R171's checks in turn: too short for its block, too short for its fields, a block where none may stand, a block of no ids or
of five, not the master, a failing watch, another type, an unknown type, no frame. -/
theorem witness_RequestRefusals :
    ((.slotPowerOn .a : Instr).request = some (.a, 0x29) ∧ (.sensorRead .a : Instr).request = some (.a, 0x10)) ∧ (rig.hold = none ∧ rig.work = {}) ∧
      ((asked ⟨0x29, 7, 1, [3, 0]⟩).toServe .a = some ⟨0x29, 7, 1, [3, 0]⟩ ∧ (⟨0x29, 7, 1, [3, 0]⟩ : Frame).split = none) ∧
      ((asked ⟨0x29, 7, 0, []⟩).toServe .a = some ⟨0x29, 7, 0, []⟩ ∧ (⟨0x29, 7, 0, []⟩ : Frame).split = some ([], []) ∧
        ([] : List Byte).length < ownNeed 0x29 []) ∧
      ((asked ⟨0x10, 7, 1, [1, 0, 1, 0]⟩).toServe .a = some ⟨0x10, 7, 1, [1, 0, 1, 0]⟩ ∧ condTypes.contains 0x10 = false) ∧
      (blockOf [0, 0] = none ∧ blockOf [5, 0, 1, 2, 3, 4, 5] = none ∧ blockOf [4, 1, 1, 2, 3, 4] ≠ none ∧
        condTypes.contains 0x29 = true) ∧
      (({ asked ⟨0x29, 7, 0, [1]⟩ with msa := {} } : Dev).toServe .a = some ⟨0x29, 7, 0, [1]⟩ ∧
        ({ asked ⟨0x29, 7, 0, [1]⟩ with msa := {} } : Dev).mayServe .a 0x29 [1] = false) ∧
      ((asked ⟨0x29, 7, 1, [1, 0, 9, 1]⟩).toServe .a = some ⟨0x29, 7, 1, [1, 0, 9, 1]⟩ ∧
        (⟨0x29, 7, 1, [1, 0, 9, 1]⟩ : Frame).cond = some ⟨[9], false⟩ ∧ (asked ⟨0x29, 7, 1, [1, 0, 9, 1]⟩).failing .a ⟨[9], false⟩ ≠ []) ∧
      ((ask 0x77 []).toServe .a = some ⟨0x77, 7, 0, []⟩ ∧ (0x77 : Byte) ∉ requestTypes) ∧ rig.toServe .a = none := by
  decide +kernel

/-- A block of mode CONSUME and the same request with mode KEEP, for a SLOT POWER ON and for a CERT REMOVE that starts. -/
theorem witness_ConsumeDropsEntries :
    let f : Frame := ⟨0x29, 7, 1, [1, 1, 1, 1]⟩
    let g : Frame := ⟨0x29, 7, 1, [1, 0, 1, 1]⟩
    let x : Frame := ⟨0x39, 7, 1, [1, 1, 1, 0, 0, 0, 9]⟩
    ((.slotPowerOn .a : Instr).request = some (.a, 0x29) ∧ ((asked f).hold = none ∧ (asked f).work = {}) ∧
      (asked f).toServe .a = some f ∧ f.ty = 0x29 ∧ condTypes.contains (0x29 : Byte) = true ∧ f.cond = some ⟨[1], true⟩ ∧
      (asked f).failing .a ⟨[1], true⟩ = [] ∧ f.split.map (·.2) = some [1] ∧ ownNeed 0x29 [1] ≤ ([1] : List Byte).length ∧
      (asked f).mayServe .a 0x29 [1] = true ∧ (g.ty, g.tag) = (f.ty, f.tag) ∧ g.cond = some ⟨[1], false⟩ ∧
      g.split.map (·.2) = some [1]) ∧
      ((.certRemove .a : Instr).request = some (.a, 0x39) ∧ (asked x).toServe .a = some x ∧ x.cond = some ⟨[1], true⟩ ∧
        (after (.certRemove .a) (asked x)).lcu.op = some (.erase 0 .a (some ⟨[1], true⟩))) := by decide +kernel

/-- In CONSUME mode an OK reply removes the entry. -/
theorem witness_ConsumeDropsEntries_ok :
    (after (.slotPowerOff .a) (asked ⟨0x2A, 7, 1, [1, 1, 1, 7]⟩)).wtb.entries = [] := by decide +kernel

theorem witness_ReplyHandedOver : rig.down .a = false ∧ rig.down .b = false := by decide +kernel

/-- R173: a reply of link B that waits behind its busy line is kept as link A is answered, and goes on an idle line. -/
theorem test_other_link_waits :
    let wait (x : Option OutFrame) := (after (.graceSet .a) ((ask 0x3B [0, 5]).modLink .b fun r =>
      { r with tx := x, reply := some ⟨1, 2, .ok, []⟩ })).link .b
    (wait (some (.notice ⟨0, 0, none⟩))).reply = some ⟨1, 2, .ok, []⟩ ∧ (wait none).tx = some (.reply ⟨1, 2, .ok, []⟩) := by
  decide +kernel

theorem witness_ResetBegins :
    ((rig.hold.getD {}).supply = none ∧ rig.lines.externalReset = false) ∧
      ((rig.modLink .b fun r => { r with reply := some ⟨9, 1, .ok, []⟩ }).mli.b.restartDue = true) ∧
      ({ rig with hold := some { supply := some 4 } } : Dev).hold = some { supply := some 4 } ∧
      ({ supply := some 4 } : Hold).supply ≠ none := by decide +kernel

/-- A part in reset whose store holds a certificate that loads, with an expiry and unmarked, and one of another chassis serial. -/
theorem witness_ResetEndDefaults :
    let c : CertData := ⟨9, .base, 4, 3, Config.chassisSerial, Config.validationCode 9 (tierCode .base) 4 3 Config.chassisSerial⟩
    let d : Dev := { rig with
      hold := some { supply := some 4 }
      store := { certs := (Vector.replicate 16 .nothing).set 0 (.whole c false) |>.set 1 .torn } }
    d.hold ≠ none ∧ d.store.certs[0] = .whole c false ∧ c.serial = Config.chassisSerial ∧
      c.code = Config.validationCode c.id (tierCode c.tier) c.seats c.expiry c.serial ∧ c.expiry ≠ 0 ∧
      d.store.certs[1] = .torn ∧ d.store.counter = .never :=
  ⟨nofun, rfl, rfl, rfl, by decide, rfl, rfl⟩

theorem witness_SweepStartAndSensorRequests :
    ((rig.hold = none ∧ rig.work = {}) ∧ rig.ssu.sweep = none) ∧
      ∀ x ∈ ([(0x10, [7]), (0x10, [8]), (0x10, [15]), (0x10, [16]), (0x10, [31]), (0x10, [32]), (0x13, [0]), (0x13, [15]),
        (0x13, [16]), (0x12, [15, 0, 0, 0, 0, 0, 0, 0]), (0x12, [16, 0xFF, 0xB0, 1, 44, 1, 45, 40]),
        (0x12, [31, 0, 0, 0, 0, 0, 0, 41]), (0x12, [32, 0, 0, 0, 0, 0, 0, 0])] : List (Byte × List Byte)), Served x.1 x.2 := by
  decide +kernel

/-- A sweep with the turns of C0 to C7 and T0 taken and the rest to come. -/
def held : Sweep :=
  { readings := readings, cur := Vector.ofFn fun _ => .taken, temp := Vector.ofFn fun i => if i.val = 0 then .taken else .waiting }

/-- The part at work at the end of a sweep: T0 to T2 and slot 0's T4 close a window at every sample, T4 reads `v` and T2 30 less, T1
does not answer after two NAR windows, and C0 closes above slot 0's limit. -/
def sweptAt (v : Int) : Dev :=
  { rig with ssu := { rig.ssu with
      cur := rig.ssu.cur.set 0 { k := 0 }
      temp := Vector.ofFn fun i : Fin 16 =>
        if i.val = 1 then { k := 0, narRuns := 2 } else if i.val = 0 ∨ i.val = 2 ∨ i.val = 4 then { k := 0 } else {}
      sweep := some { held with readings := ⟨64, 4032, Vector.ofFn fun _ => 2501, Vector.ofFn fun i : Fin 16 =>
        if i.val = 1 then none else if i.val = 4 then some v else if i.val = 2 then some (v - 30) else some 50⟩ } } }

theorem sweptAt_sound (v : Int) : (sweptAt v).sound := rig_sound

theorem witness_SweepDelivers :
    (∀ v, (sweptAt v).sound ∧ (sweptAt v).hold = none ∧ (sweptAt v).work = {} ∧ (sweptAt v).ssu.sweep ≠ none) ∧
      ((sweptAt 190).slot 0).state = .powered ∧ ((sweptAt 190).slot 0).state.holdsBase = true ∧
      ((sweptAt 190).port 0).state = .active ∧ slotOf 0 = 0 :=
  ⟨fun v => ⟨sweptAt_sound v, rfl, rfl, nofun⟩, by decide +kernel⟩

/-- R70, R8, R43: T4 at 170 is CRITICAL, which takes slot 0's port off first, and T1's third NAR window makes it FAILED; T2 at 160
is SHUTDOWN for the whole chassis, and T4 at 190 for slot 0. -/
theorem test_levels_act :
    let d := after (.sweepEnd [.level 4]) (sweptAt 170)
    let e := after (.sweepEnd [.level 4]) (sweptAt 190)
    ((d.port 0).state = .held ∧ (d.slot 0).state = .powered ∧ d.ssu.temp[1].health = .failed ∧ (d.cls clsSensor).count = 1 ∧
      d.pbu.tin = some 50 ∧ (d.slot 0).ocCount = 1) ∧
      (e.slot 0).cause = some .thermal ∧ (e.slot 7).cause = some .thermal ∧ (e.cls clsShutdown).count = 2 := by decide +kernel

/-- Two orders of one sweep end (R42): with slot 0 over its current at once and its T4 CRITICAL, an evaluation taken first makes its SHED port HELD before the fault,
and one taken after the fault finds the port SUSPENDED. -/
theorem witness_SweepDelivers_order :
    let d := (sweptAt 170).modSlot 0 fun r => { r with ocDelay := 0 }
    ((after (.sweepEnd [.budget, .current 0]) d).port 2).state = .held ∧
      ((after (.sweepEnd [.current 0, .budget]) d).port 2).state = .suspended := by decide +kernel

theorem witness_WindowAverage :
    (({ k := 0 } : ChanRec).poisoned = false ∧ ({ k := 0 } : ChanRec).count + 1 = 4 ^ 0) ∧
      (({ k := 3, count := 63, acc := -1260 } : ChanRec).poisoned = false ∧ ({ k := 3, count := 63 } : ChanRec).count + 1 = 4 ^ 3) := by
  decide

/-- An average at a threshold above the level, and one below every threshold above it. -/
theorem witness_LevelMoves :
    let t : LimitRec := { warning := 80, critical := 90, shutdown := 100 }
    let u : LimitRec := { warning := 80, critical := 90, shutdown := 100, level := .critical }
    (t.level.code < Level.critical.code ∧ t.threshold .critical ≤ 90) ∧
      ∀ x : Level, u.level.code < x.code → 83 < u.threshold x := by
  refine ⟨by decide, ?_⟩
  intro x; cases x <;> decide

theorem witness_SensorConfigure :
    ∀ x ∈ ([[0, 0, 0], [7, 1, 3], [7, 0, 4], [8, 1, 1], [15, 1, 1], [16, 0, 1], [17, 0, 1], [18, 0, 1], [31, 2, 1], [32, 1, 1]] :
      List (List Byte)), Served 0x11 x := by decide +kernel

theorem witness_ControlPeriod : (⟨rig, []⟩ : State).running := by decide +kernel

theorem witness_TrayEvents :
    (⟨rig, []⟩ : State).running ∧ rig.clc.trays[0].present = true ∧ rig.clc.trays[2].present = false ∧ rig.sound ∧
      rig.clc.trays[2].countdown = .running 121000 := ⟨by decide +kernel, by decide +kernel, by decide +kernel, rig_sound, by decide +kernel⟩

/-- Groups 0 and 3, a fan set that drops a fan and the whole set, a sixty-fourth; curves and ratings at their ends. -/
theorem witness_CoolingRequests :
    ∀ x ∈ ([(0x19, [0, 3, 0, 1, 0, 0, 0, 0, 20, 0, 50, 0, 10]), (0x19, [0, 63, 0, 1, 1, 0, 100, 0, 100, 0, 51, 0, 0]),
      (0x19, [0, 64, 0, 1, 1, 0, 100, 0, 20, 0, 0, 0, 1]), (0x19, [0, 2, 0, 1, 1, 0, 0, 0, 20, 0, 0, 0, 1]),
      (0x19, [3, 0, 0, 0, 0, 0, 0, 0, 0, 0, 0, 0, 0]), (0x19, [2, 63, 0, 0, 2, 0, 0, 0, 0, 0, 0, 0, 0]),
      (0x18, [15, 0, 0, 0, 0]), (0x18, [16, 1, 43, 1, 44]), (0x18, [31, 1, 44, 0, 0]), (0x18, [32, 0, 0, 0, 0]),
      (0x1A, [5, 4, 176]), (0x1A, [5, 117, 49]), (0x1A, [6, 4, 176]), (0x1B, [0]), (0x1B, [1]), (0x1B, [2])] :
        List (Byte × List Byte)), Served x.1 x.2 := by decide +kernel

/-- Bay 0 ONLINE, 1 STARTING with its wait, 2 FAULTED with and without its lines, 3 ABSENT with and without a fault line. -/
theorem witness_SupplyEvents :
    (⟨rig, []⟩ : State).running ∧ (rig.supply 0).state = .online ∧ (rig.supply 1).state = .starting ∧
      (rig.supply 1).wait = some 2500 ∧ ((rig.modSupply 1 fun r => { r with wait := none }).supply 1).wait = none ∧
      ((rig.supply 2).state = .faulted ∧ rig.lines.supplyFault[2] = false) ∧
      (rig.setSupplyPowerGood 2 true).lines.supplyPowerGood[2] = true ∧
      ((rig.supply 3).state = .absent ∧ rig.lines.supplyFault[3] = false ∧ (rig.setSupplyFault 3 true).lines.supplyFault[3] = true) := by
  decide +kernel

/-- A part whose first inlet reads `t`. -/
def warm (t : Int) (raw : Nat) : Dev :=
  { rig.modTemp 0 (fun r => { r with published := .value t }) with pbu := { rig.pbu with raw := raw } }

theorem witness_AvailablePower :
    ((warm 87 4000).pbu.raw = 4000 ∧ (warm 87 4000).figureRest.pbu.derate = 7) ∧
      ((warm 83 3333).pbu.raw = 3333 ∧ (warm 83 3333).figureRest.pbu.derate = 3) ∧
      (warm 80 16000).pbu.raw ≤ 16000 ∧ (warm 105 16000).figureRest.pbu.derate = 25 := by decide +kernel

/-- Bay 0 gives 2538 W, so that 1903 W are available of the 1906 allocated: port 5 of priority 1 is shed, port 0 of 3 is not. -/
def scarce : Dev := rig.modSupply 0 fun r => { r with capacity := 2538 }

/-- With 1800 W or less the bases do not fit: slot 7 is shed, or slot 4 where 7 is protected, and slot 0 stays. -/
def poor (keep7 : Bool) : Dev :=
  (rig.modSupply 0 fun r => { r with capacity := 2400 }).modSlot 7 fun r => { r with prot := keep7 }

theorem witness_ShedOrder_slots :
    ((poor false).slot 7).state.holdsBase = true ∧ ((poor false).evaluate.slot 7).state.holdsBase = false ∧
      (((poor false).slot 0).state.holdsBase = true ∧ ((poor false).heldBase 0).isSome = true ∧
        ((poor false).evaluate.slot 0).state.holdsBase = true) ∧
      ((poor true).slot 4).state.holdsBase = true ∧ ((poor true).evaluate.slot 4).state.holdsBase = false ∧
      ((poor true).evaluate.slot 7).state.holdsBase = true ∧
      rig.figureRaw.figureRest.pbu.allocated ≤ rig.figureRaw.figureRest.pbu.available := by decide +kernel

theorem witness_ShedOrder :
    (scarce.port 5).state = .active ∧ (scarce.port 0).state = .active ∧ (scarce.evaluate.port 5).state = .shed ∧
      (scarce.evaluate.port 0).state = .active := by decide +kernel

/-- R46, R47: what was left before port 5 and before slot 7 was shed still exceeded what is available. -/
theorem witness_ShedOrder_need :
    scarce.figureRaw.figureRest.pbu.available < scarce.allocatedSum ∧ (scarce.evaluate.port 5).state ≠ .active ∧
      ((poor false).figureRaw.figureRest.pbu.available < (poor false).allocatedSum) ∧ (poor false).evaluate.pbu.overcommit = false ∧
      rig.allocatedSum ≤ rig.figureRaw.figureRest.pbu.available ∧ rig.portsWf := by
  refine ⟨?_, ?_, ?_, ?_, ?_, rig_sound.1⟩ <;> decide +kernel

theorem witness_PowerRequests :
    (∀ x ∈ ([(0x20, [0, 0x0F, 0xA0]), (0x20, [0, 0x0F, 0xA1]), (0x20, [3, 0, 1]), (0x20, [4, 0, 0]), (0x21, [0]), (0x21, [1]),
      (0x21, [2]), (0x21, [3]), (0x22, [7, 208, 0, 200]), (0x22, [5, 214, 0, 20]), (0x22, [5, 215, 0, 20]), (0x22, [1, 143, 0, 201]),
      (0x23, [])] : List (Byte × List Byte)), Served x.1 x.2) ∧
      rig.sound ∧ (rig.pbu.available < rig.pbu.allocated + (1495 - rig.pbu.reserve)) ∧
      ¬ rig.pbu.available < rig.pbu.allocated + (1494 - rig.pbu.reserve) :=
  ⟨by decide +kernel, rig_sound, by decide +kernel, by decide +kernel⟩

/-- The part with a window of C7 closed at `v` and `n` windows above the limit before it; the delay is 2. -/
def drawing (v : Int) (n : Nat) : Dev :=
  (rig.modCur 7 fun r => { r with published := .value v }).modSlot 7 fun r => { r with ocCount := n }

theorem witness_SlotFaults :
    (⟨rig, []⟩ : State).running ∧ rig.sound ∧ (rig.slot 0).state = .powered ∧ (rig.slot 1).state = .off ∧
      ((rig.slot 3).state = .powering ∧ (rig.slot 3).ramp = some 1500) ∧
      ((rig.slot 0).retryEnable = true ∧ (rig.slot 0).attempts < (rig.slot 0).maxAttempts) ∧
      ¬ ((rig.modSlot 0 fun r => { r with attempts := 3 }).slot 0).attempts < (rig.slot 0).maxAttempts ∧
      ((drawing 2500 2).ssu.cur[7].published = .value 2500 ∧ (2500 : Int) ≤ ((drawing 2500 2).slot 7).limit) ∧
      ¬ (2501 : Int) ≤ ((drawing 2501 1).slot 7).limit ∧ ((drawing 2501 1).slot 7).ocCount + 1 ≤ ((drawing 2501 1).slot 7).ocDelay ∧
      ¬ ((drawing 2501 2).slot 7).ocCount + 1 ≤ ((drawing 2501 2).slot 7).ocDelay :=
  ⟨by decide +kernel, rig_sound, by decide +kernel⟩

theorem witness_SlotGoesOff :
    rig.sound ∧ (∀ x ∈ ([[0], [1], [5], [6], [7], [8]] : List (List Byte)), Served 0x2A x) ∧ (⟨rig, []⟩ : State).running ∧
      (rig.slot 6).state = .empty ∧ (rig.slot 4).state.holdsBase = true ∧ (rig.slot 5).state = .lockedOut ∧
      (rig.slot 1).state.holdsBase = false := ⟨rig_sound, by decide +kernel⟩

/-- With every tray in, slot 1 may be powered; with slot 3 off the ramp, nothing ramps. -/
def calm : Dev := { rig with clc := {} }

theorem witness_SlotQueued :
    rig.sound ∧ (⟨rig, []⟩ : State).running ∧ (rig.slot 6).state = .empty ∧ (rig.slot 7).state ≠ .empty ∧
      ((rig.slot 4).state = .retryWait ∧ (rig.slot 4).retry = some 10000 ∧ rig.lines.hotSwap[4] = false) ∧
      (∀ x ∈ ([[0], [1], [8]] : List (List Byte)), Served 0x29 x ∧ ServedBy calm 0x29 x) ∧
      calm.noneRamping = false ∧ (after (.slotPowerGoodRise 3) { calm with spc := { calm.spc with queue := [] } }).noneRamping = true :=
  ⟨rig_sound, by decide +kernel⟩

theorem witness_SlotEntersPowered :
    (⟨rig, []⟩ : State).running ∧ rig.sound ∧ (rig.slot 3).state = .powering ∧
      ((rig.slot 0).state = .powered ∧ (rig.slot 0).stable = some 100 ∧ (rig.slot 0).attempts = 1) ∧
      ((rig.slot 7).stable = some 900 ∧ (rig.slot 7).attempts = 0) := ⟨by decide +kernel, rig_sound, by decide +kernel⟩

/-- Slot 5 is LOCKED_OUT and 1 is not; the settings as they stand, at their ends and one past them; slot 0 no longer
protected. -/
theorem witness_SlotRequests :
    (∀ x ∈ ([(0x2B, [5]), (0x2B, [1]), (0x2B, [8]), (0x28, [0, 1, 44, 9, 196, 2, 1, 3, 10, 0]), (0x28, [7, 3, 32, 15, 255, 15, 0, 7, 255, 1]),
      (0x28, [7, 3, 33, 16, 0, 16, 1, 8, 0, 1]), (0x28, [8, 0, 0, 0, 0, 0, 0, 1, 1, 0]), (0x28, [7, 0, 0, 0, 0, 0, 2, 1, 1, 0]),
      (0x2C, [7]), (0x2C, [8])] : List (Byte × List Byte)), Served x.1 x.2) ∧
      ServedBy (rig.modSlot 0 fun r => { r with prot := true }) 0x28 [0, 1, 44, 9, 196, 2, 1, 3, 10, 0] := by decide +kernel

theorem witness_SlotFrameCounts :
    (⟨rig, []⟩ : State).running ∧ (rig.slot 0).state = .powered ∧ (rig.slot 1).state ≠ .powered ∧
      ((rig.setSlotRx 0 .inFrame).slot 0).rx = .inFrame ∧ (rig.slot 0).rx ≠ .inFrame ∧
      isOther (Frame.wire ⟨0xE2, 0, 0, [0, 0, 0, 0, 0, 0, 0, 1]⟩) = true := by decide +kernel

/-- R74, R75: the count that reaches 96 and the one that reaches 128 raise their events. -/
theorem test_slot_health_events :
    let d (n : Nat) := after (.slotLinkBadFrame 0) (rig.modSlot 0 fun r => { r with health := n })
    ((d 88).cls clsSlot).last.map (·.code) = some 0x43 ∧ ((d 120).cls clsSlot).last.map (·.code) = some 0x44 ∧
      ((d 87).cls clsSlot).last = none := by decide +kernel

/-- All eight pairs, the first class and the last. -/
def statusFrame : Frame := ⟨0xE2, 0, 0, [0x80, 0x81, 0x82, 0x83, 0, 0, 0, 0]⟩

theorem witness_SlotStatusFrame :
    (⟨rig, []⟩ : State).running ∧ rig.sound ∧ (rig.slot 0).state = .powered ∧ arrival statusFrame.wire = .good statusFrame ∧
      slotFrameOf statusFrame = .status #v[some 0, some 1, some 2, some 3, none, none, none, none] :=
  ⟨by decide +kernel, rig_sound, by decide +kernel⟩

theorem witness_UpdateAcknowledged :
    (⟨rig, []⟩ : State).running ∧ rig.sound ∧ (rig.slot 7).state = .powered ∧
      arrival (Frame.wire ⟨0xE1, 0, 0, [0, 0, 0, 0]⟩) = .good ⟨0xE1, 0, 0, [0, 0, 0, 0]⟩ ∧
      slotFrameOf ⟨0xE1, 0, 0, [0, 0, 0, 0]⟩ = .ack 0 ∧ ((rig.step 7).state = .sending ∧ (rig.step 7).sent = some 0) ∧
      slotFrameOf ⟨0xE1, 0, 0, [0, 0, 0, 1]⟩ = .ack 1 := ⟨by decide +kernel, rig_sound, by decide +kernel⟩

/-- Port 3 is OFFLINE, 0 is not; the settings as they stand, and changed. -/
theorem witness_PortConfigure :
    ∀ x ∈ ([[3, 0, 2], [3, 1, 3], [3, 1, 4], [3, 2, 0], [0, 0, 0], [63, 0, 0], [64, 0, 0]] : List (List Byte)), Served 0x30 x := by
  decide +kernel

/-- The part at work without its SHED port, with five BASE seats of which four are held and with `n` watts available. -/
def roomy (n : Nat) : Dev :=
  { rig.modPort 2 fun _ => {} with
    pbu := { rig.pbu with restoreQ := [], available := n }
    lcu := { rig.lcu with
      table := rig.lcu.table.set 0 (some ⟨⟨9, .base, 5, 3, 5, 6⟩, false, 1⟩)
      base := { total := 5, held := 4 }, high := {}, borrowers := [] } }

theorem roomy_sound : (roomy 1915).sound ∧ (roomy 1916).sound := by and_intros <;> decide +kernel

/-- No seat, one watt too few for class 3, enough, a port that is not OFFLINE, one without an optic, the last port and none. -/
theorem witness_PortActivate :
    rig.sound ∧ Served 0x31 [3] ∧ ((roomy 1915).sound ∧ (roomy 1916).sound) ∧
      (∀ x ∈ ([[3], [0], [4], [63], [64]] : List (List Byte)), ServedBy (roomy 1915) 0x31 x ∧ ServedBy (roomy 1916) 0x31 x) :=
  ⟨rig_sound, by decide +kernel, roomy_sound, by decide +kernel⟩

/-- R95, R116: PORT DEACTIVATE of port 0 frees a BASE seat, which the borrower takes, and room, which brings port 2 back. -/
theorem test_deactivate_gives_back :
    let d := after (.portDeactivate .a) (ask 0x32 [0])
    (d.port 2).seat = .base ∧ (d.port 2).state = .active ∧ d.pbu.restoreQ = [] ∧ d.lcu.borrowers = [] := by decide +kernel

theorem witness_PortRequests :
    rig.sound ∧ ∀ x ∈ ([(0x32, [0]), (0x32, [3]), (0x32, [63]), (0x32, [64]), (0x33, [1]), (0x33, [0]), (0x33, [64]), (0x34, [0, 63]),
      (0x34, [0, 64]), (0x34, [1, 64]), (0x34, [2, 0])] : List (Byte × List Byte)), Served x.1 x.2 := ⟨rig_sound, by decide +kernel⟩

/-- Place 0's certificate expires at minute 3, which the counter reaches; another place holds none; a part whose counter stands
there already. -/
theorem witness_MinuteTick :
    (⟨rig, []⟩ : State).running ∧ rig.sound ∧ (rig.lcu.table[0]).any (fun e => !e.expired && decide (e.data.expiry ≤ 3)) = true ∧
      ({ rig with lcu := { rig.lcu with counter := 3 } } : Dev).sound ∧ rig.lcu.table[1] = none :=
  ⟨by decide +kernel, rig_sound, by decide +kernel, rig_sound, by decide +kernel⟩

/-- R118: the expiry leaves BASE four seats short; with the default length its grace runs to minute 3 + 4320, with length 0 the seats
are reclaimed at once. -/
theorem test_grace_starts :
    let d (n : Nat) := after (.certExpiry 0) { rig with lcu := { rig.lcu with counter := 3, graceLen := n } }
    (d 4320).lcu.base = ⟨0, 4, .running 4323⟩ ∧ (d 0).lcu.base = ⟨0, 0, .idle⟩ ∧ ((d 0).port 0).cause = some .license := by
  decide +kernel

/-- HIGH's grace has met its deadline at the counter, or misses it by one; BASE's is idle. -/
theorem witness_GraceReclaims :
    (⟨rig, []⟩ : State).running ∧ rig.sound ∧ (rig.tierRec .high).grace = .running 2 ∧ ¬ rig.lcu.counter < 2 ∧
      ({ rig with lcu := { rig.lcu with counter := 1 } } : Dev).sound ∧ (rig.tierRec .base).grace = .idle :=
  ⟨by decide +kernel, rig_sound, by decide +kernel, by decide +kernel, rig_sound, by decide +kernel⟩

theorem witness_CertRequests :
    (∀ x ∈ ([(0x38, List.replicate 34 0), (0x38, [0, 0, 0, 1, 2] ++ List.replicate 29 0), (0x38, [0, 0, 0, 1, 1, 64] ++ List.replicate 28 0),
      (0x38, [0, 0, 0, 1, 1, 65] ++ List.replicate 28 0), (0x39, [0, 0, 0, 0]), (0x39, [0, 0, 0, 9]), (0x39, [0, 0, 0, 8]),
      (0x3A, [0, 15]), (0x3A, [0, 16]), (0x3A, [1, 16]), (0x3A, [2, 0]), (0x3B, [0x27, 0x60]), (0x3B, [0x27, 0x61])] :
        List (Byte × List Byte)), Served x.1 x.2) ∧
      ∀ x ∈ ([(0x38, List.replicate 34 0), (0x39, [0, 0, 0, 9])] : List (Byte × List Byte)),
        ServedBy { rig with lcu := { rig.lcu with op := some (.save 2) } } x.1 x.2 := by decide +kernel

/-- The part at work with a write in progress. -/
def writing (o : StoreOp) : Dev := { rig with lcu := { rig.lcu with op := some o } }

theorem writing_sound (o : StoreOp) : (writing o).sound := rig_sound

theorem witness_StoreCompletions :
    (⟨writing (.save 2), []⟩ : State).running ∧ (∀ o, (writing o).sound) ∧ (writing (.save 2)).lcu.op = some (.save 2) ∧
      (writing (.mark 15)).lcu.op = some (.mark 15) ∧ (writing (.repairCounter 2)).lcu.op = some (.repairCounter 2) ∧
      (writing (.install 15 ⟨9, .high, 1, 0, 0, 0⟩ .b)).lcu.op = some (.install 15 ⟨9, .high, 1, 0, 0, 0⟩ .b) ∧
      (writing (.erase 0 .a (some ⟨[1], true⟩))).lcu.op = some (.erase 0 .a (some ⟨[1], true⟩)) :=
  ⟨by decide +kernel, writing_sound, by decide +kernel, by decide +kernel, by decide +kernel, by decide +kernel, by decide +kernel⟩

/-- The transaction CLOSED, and OPEN with an assembly in the buffer. -/
def assembling : Dev :=
  { rig with zne := { rig.zne with staged := some ⟨[⟨3, [.node 77, .port 5]⟩], .isolate, 1⟩, assembly := some ⟨4, 2, 1, [.port 0]⟩ } }

/-- Zone ids 0, 3 and 9; part counts 1, 2, 8 and 9; a member count of 0; a second part that follows, and one that does not. -/
theorem witness_ZoneTransaction :
    ∀ x ∈ ([(0x40, []), (0x44, []), (0x42, [0, 0]), (0x42, [0, 3]), (0x42, [0, 9]), (0x43, [0]), (0x43, [1]), (0x43, [2]),
      (0x41, [0, 0, 0, 1, 0]), (0x41, [0, 4, 0, 0, 0]), (0x41, [0, 4, 0, 1, 0]), (0x41, [0, 4, 0, 8, 0]), (0x41, [0, 4, 0, 9, 0]),
      (0x41, [0, 4, 1, 2, 1, 1, 0, 0, 0, 0, 0, 0, 0, 63]), (0x41, [0, 4, 1, 2, 1, 1, 0, 0, 0, 0, 0, 0, 0, 0]),
      (0x41, [0, 4, 1, 2, 1, 1, 0, 0, 0, 0, 0, 0, 0, 64]), (0x41, [0, 5, 1, 2, 0])] : List (Byte × List Byte)),
      Served x.1 x.2 ∧ ServedBy assembling x.1 x.2 := by decide +kernel

theorem witness_ZoneCommit : Served 0x45 [] ∧ rig.zonesWf ∧ ServedBy assembling 0x45 [] ∧ assembling.zonesWf := by
  and_intros <;> decide +kernel

/-- The same zone under another id and with its members in another order. -/
theorem witness_ReachCompiled :
    let y : Zne := { rig.zne with zones := [⟨⟨9, [.port 5, .node 77]⟩, 8⟩] }
    y.mode = rig.zne.mode ∧ y.nodes = rig.zne.nodes ∧
      (∀ a ∈ rig.zne.zones, ∃ b ∈ y.zones, ∀ m, m ∈ b.zone.members ↔ m ∈ a.zone.members) ∧
      ∀ b ∈ y.zones, ∃ a ∈ rig.zne.zones, ∀ m, m ∈ a.zone.members ↔ m ∈ b.zone.members := by
  refine ⟨rfl, rfl, ?_, ?_⟩ <;> simp [rig, or_comm]

/-- Node 77 stands at port 0; ports 0 and 5 are ACTIVE, 3 and 63 are not, 64 is none. -/
theorem witness_NodeRequests :
    ∀ x ∈ ([(0x47, [0, 0, 0, 0, 0, 0, 0, 77, 0]), (0x47, [0, 0, 0, 0, 0, 0, 0, 77, 5]), (0x47, [0, 0, 0, 0, 0, 0, 0, 78, 5]),
      (0x47, [0, 0, 0, 0, 0, 0, 0, 0, 5]), (0x47, [0, 0, 0, 0, 0, 0, 0, 77, 63]), (0x47, [0, 0, 0, 0, 0, 0, 0, 77, 64]),
      (0x48, [0, 0, 0, 0, 0, 0, 0, 0]), (0x48, [0, 0, 0, 0, 0, 0, 0, 77]), (0x48, [0, 0, 0, 0, 0, 0, 0, 78]),
      (0x49, [0, 0, 0, 0, 0, 0, 0, 0, 0]), (0x49, [0, 0, 0, 0, 0, 0, 0, 0, 77]), (0x49, [1, 0, 0, 0, 0, 0, 0, 0, 63]),
      (0x49, [1, 0, 0, 0, 0, 0, 0, 0, 64]), (0x49, [2, 0, 0, 0, 0, 0, 0, 0, 0]), (0x49, [3, 0, 0, 0, 0, 0, 0, 0, 0]),
      (0x46, [0, 0, 0, 0, 0]), (0x46, [1, 0, 0, 3, 0]), (0x46, [1, 0, 0, 0, 0]), (0x46, [1, 0, 0, 4, 0]), (0x46, [1, 1, 0, 3, 0]),
      (0x46, [2, 0, 0, 0, 0]), (0x46, [0, 2, 0, 0, 0])] : List (Byte × List Byte)), Served x.1 x.2 := by decide +kernel

theorem witness_EnforcementTimers :
    (⟨rig, []⟩ : State).running ∧ (rig.slot 0).tx = [] ∧
      ((rig.modSlot 7 fun r => { r with tx := [⟨0, []⟩] }).slot 7).tx = [⟨0, []⟩] ∧
      ((rig.step 7).state = .sending ∧ (rig.step 7).response = some 1050) ∧
      (let d := rig.modStep 7 fun r => { r with state := .outOfStep, response := none, resend := some 2050 }
      (d.step 7).state = .outOfStep ∧ (d.step 7).resend = some 2050) ∧
      ∀ x ∈ ([[0, 8], [1, 7], [1, 8], [2, 0]] : List (List Byte)), Served 0x50 x := by decide +kernel

/-- Records of each kind, one that does not exist, a key too wide, kind 7; the entry owned and not, none and nine ids. -/
theorem witness_WatchRequests :
    rig.watchesWf ∧ ∀ x ∈ ([(0x58, [0, 0, 0, 0, 0, 0, 0, 0, 63]), (0x58, [0, 0, 0, 0, 0, 0, 0, 0, 64]), (0x58, [3, 0, 0, 0, 0, 0, 0, 0, 9]),
      (0x58, [3, 0, 0, 0, 1, 0, 0, 0, 0]), (0x58, [5, 0, 0, 0, 0, 0, 0, 0, 3]), (0x58, [6, 0, 0, 0, 0, 0, 0, 0, 0]),
      (0x58, [7, 0, 0, 0, 0, 0, 0, 0, 0]), (0x59, [0, 0]), (0x59, [1, 0]), (0x59, [1, 1, 1]), (0x59, [1, 8, 1, 2, 3, 4, 5, 6, 7, 8]),
      (0x59, [1, 9, 1, 2, 3, 4, 5, 6, 7, 8, 9]), (0x59, [1, 1, 0]), (0x59, [2, 0]), (0x5A, [])] : List (Byte × List Byte)),
        Served x.1 x.2 := by decide +kernel

theorem witness_FramesArrive :
    (⟨rig, []⟩ : State).running ∧ rig.takesInput .a = true ∧ (rig.setLineLow .a true).takesInput .a = false ∧
      arrival (Frame.wire ⟨0x10, 1, 0, [3]⟩) = .good ⟨0x10, 1, 0, [3]⟩ ∧ (⟨0x10, 1, 2, [3]⟩ : Frame).notRequest = true := by
  decide +kernel

/-- Counts that reach 96, fall one short of it, and reach 255, with and without a restart due; a line that rises too soon. -/
theorem witness_BadFrames :
    (⟨rig, []⟩ : State).running ∧ rig.takesInput .a = true ∧
      (∀ n ∈ [87, 88, 246, 247, 254], (rig.modLink .a fun r => { r with errs := n }).takesInput .a = true) ∧
      arrival [0x10, 1, 0, 0, 0, 0, 0] = .bad ∧ arrival [0x10, 1, 0, 1, 0xF1] = .bad ∧ ((rig.setRx .a .inFrame).link .a).rx = .inFrame ∧
      (rig.setLineLow .a true).lineLow .a = true ∧ (rig.setLineLow .a true).down .a = false ∧
      ((rig.modLink .a fun r => { r with reply := some ⟨9, 1, .ok, []⟩ }).link .a).restartDue = true := by decide +kernel

/-- R176: link A goes DOWN as master and B, its standby, succeeds; B goes DOWN and its registration lapses. -/
theorem test_down_roles :
    let d (l : Link) := after (.linkBadFrame l) (rig.modLink l fun r => { r with errs := 250 })
    ((d .a).cls clsMastership).last = some ⟨.link, 0, 0xA2, [1, 1], 0⟩ ∧ (d .a).msa.master = some .b ∧
      ((d .b).cls clsMastership).last = some ⟨.link, 1, 0xA3, [], 0⟩ ∧ (d .b).msa.master = some .a := by decide +kernel

theorem witness_LineEvents :
    (⟨rig, []⟩ : State).running ∧ (rig.setLineLow .a true).lineLow .a = true ∧ (rig.link .a).rx = .idle ∧ (rig.link .a).rx ≠ .brk ∧
      ((rig.modLink .a fun r => { r with tx := some (.reply ⟨9, 1, .ok, []⟩) }).link .a).tx = some (.reply ⟨9, 1, .ok, []⟩) ∧
      ((rig.modLink .a fun r => { r with tx := some (.notice ⟨0, 0, none⟩) }).link .a).tx = some (.notice ⟨0, 0, none⟩) ∧
      (rig.link .a).errs < 255 := by decide +kernel

theorem witness_LinkRequests :
    (∀ x ∈ ([(0x01, []), (0x08, [0]), (0x08, [1]), (0x08, [2]), (0x02, [0]), (0x02, [1]), (0x02, [2]), (0x09, []), (0x03, []), (0x05, []),
      (0x06, []), (0x07, [0, 0, 0, 100]), (0x07, [0x27, 0x10, 0xEA, 0x60]), (0x07, [0x27, 0x11, 0xEA, 0x61]), (0x07, [0, 0, 0, 99])] :
        List (Byte × List Byte)), Served x.1 x.2) ∧
      (∀ x ∈ ([(0x03, []), (0x05, []), (0x06, [])] : List (Byte × List Byte)),
        ServedBy { rig with msa := {} } x.1 x.2 ∧ ServedBy { rig with msa := { master := some .b } } x.1 x.2) ∧
      ServedBy (rig.modLink .a fun r => { r with lastGood := some 999 }) 0x06 [] := by decide +kernel

theorem witness_MastershipEnds :
    Served 0x04 [] ∧ (⟨rig, []⟩ : State).running ∧ (rig.msa.master = some .a ∧ (rig.link .a).deadline = some 4000) ∧
      ({ rig with msa := {} } : Dev).msa.master = none ∧ ((rig.link .b).standby = true ∧ (rig.link .b).deadline = some 3500) ∧
      (rig.link .a).standby = false := by decide +kernel

theorem witness_AlertRead : ∀ x ∈ ([[0], [10], [11], [0xFF]] : List (List Byte)), Served 0x60 x := by decide +kernel

theorem witness_AlertCommands :
    (∀ x ∈ ([(0x61, [0]), (0x61, [10]), (0x61, [11]), (0x61, [0xFF]), (0x62, [10, 0]), (0x62, [10, 1]), (0x62, [10, 2]), (0x62, [11, 1]),
      (0x62, [0xFF, 1])] : List (Byte × List Byte)), Served x.1 x.2) ∧ (⟨rig, []⟩ : State).running := by decide +kernel

/-- Both links are told while there is no master; link A's place is full behind a busy line, or every place is empty and class 2
is the first unnoticed. -/
theorem witness_AlertCommands_notices :
    (let r := rig.modLink .a fun x => { x with notice := some ⟨3, 1, none⟩, tx := some (.notice ⟨2, 1, none⟩) }
      let d : Dev := { r with msa := {} }
      (⟨d, []⟩ : State).running ∧ d.noticeTarget .a ∧ (d.link .a).notice ≠ none ∧ (d.link .a).tx ≠ none) ∧
      let e : Dev := { rig with atc := { rig.atc with classes := Vector.ofFn fun c : Fin 11 => { unnoticed := decide (2 ≤ c.val) } } }
      ((⟨e, []⟩ : State).running ∧ e.noticeTarget .a ∧ ¬ e.noticeTarget .b ∧ (e.link .a).notice = none) ∧
        e.noticeCandidate 2 ∧ ∀ y, y < 2 → ¬ e.noticeCandidate y := by decide +kernel

/-- R181: the first unnoticed class goes to the master link, on its idle line, and not to the standby. -/
theorem test_notice :
    let e : Dev := { rig with atc := { rig.atc with classes := Vector.ofFn fun c : Fin 11 => { unnoticed := decide (2 ≤ c.val) } } }
    let d := after .uptimeTick e
    (d.link .a).tx = some (.notice ⟨2, 0, none⟩) ∧ (d.cls 2).unnoticed = false ∧ (d.link .b).tx = none := by decide +kernel

theorem witness_FrameArrives :
    (⟨0x40, 0xFF, 0, List.replicate 496 0xFF⟩ : Frame).body.length ≤ 496 ∧
      [0, 0] ≠ beBytes 2 (crc16 (Frame.covered ⟨0x40, 1, 0, []⟩)).toNat ∧ 496 < beNat [1, 0xF1] := by decide +kernel

/-- The part at work with slot 3's power-good about to rise. -/
def busy : State := ⟨rig, [.slotPowerGoodRise 3]⟩

/-- A step from the part at work meets the premises of every statement that a step keeps an invariant. -/
theorem witness_kept :
    rig.sound ∧ rig.work = {} ∧ rig.hold = none ∧ Sys2Proof.Machine.step busy = .next ⟨after (.slotPowerGoodRise 3) rig, []⟩ :=
  ⟨rig_sound, by decide +kernel, by decide +kernel,
    by simp [Sys2Proof.Machine.step, busy, exec, execSlotPowerGoodRise, State.lineEvent, after, rig_running.1]⟩

theorem witness_WorkDone :
    rig.work = {} ∧ rig.noticesWf ∧ Sys2Proof.Machine.step busy = .next ⟨after (.slotPowerGoodRise 3) rig, []⟩ :=
  ⟨witness_kept.2.1, by decide +kernel, witness_kept.2.2.2⟩

theorem witness_SlotsKept : rig.slotsWf ∧ Sys2Proof.Machine.step busy = .next ⟨after (.slotPowerGoodRise 3) rig, []⟩ :=
  ⟨rig_sound.2.1, witness_kept.2.2.2⟩

theorem witness_PortsKept :
    rig.portsWf ∧ rig.slotsWf ∧ rig.carriedWf ∧ Sys2Proof.Machine.step busy = .next ⟨after (.slotPowerGoodRise 3) rig, []⟩ :=
  ⟨rig_sound.1, rig_sound.2.1, rig_sound.2.2.1, witness_kept.2.2.2⟩

theorem witness_BudgetKept :
    rig.portsWf ∧ rig.slotsWf ∧ (rig.hold = none → rig.budgetWf) ∧
      Sys2Proof.Machine.step busy = .next ⟨after (.slotPowerGoodRise 3) rig, []⟩ ∧ (after (.slotPowerGoodRise 3) rig).hold = none :=
  ⟨rig_sound.1, rig_sound.2.1, fun _ => rig_sound.2.2.2.1, witness_kept.2.2.2, by decide +kernel⟩

theorem witness_PermissionsKept :
    rig.perm.wf ∧ rig.work = {} ∧ rig.hold = none ∧ rig.eligibleWf ∧
      Sys2Proof.Machine.step busy = .next ⟨after (.slotPowerGoodRise 3) rig, []⟩ ∧ (after (.slotPowerGoodRise 3) rig).hold = none :=
  ⟨rig_sound.2.2.2.2.1, rig_running.2, rig_running.1, by and_intros <;> decide +kernel, witness_kept.2.2.2, by decide +kernel⟩

/-- ZONE COMMIT changes rows while slot 7 is SENDING. -/
theorem witness_PermissionsKept_rows :
    let d := zoning 0x45 []
    let e := after (.zoneCommit .a) d
    Sys2Proof.Machine.step ⟨d, [.zoneCommit .a]⟩ = .next ⟨e, []⟩ ∧ d.work = {} ∧ d.hold = none ∧ e.hold = none ∧
      (d.step 7).state = .sending ∧ (e.step 7).state = .sending ∧ e.perm.rows ≠ d.perm.rows :=
  ⟨by simp only [Sys2Proof.Machine.step, exec, execZoneCommit, serve, after]; rfl, by decide +kernel⟩

theorem witness_SeatsKept :
    rig.portsWf ∧ rig.work = {} ∧ rig.seatsWf ∧ Sys2Proof.Machine.step busy = .next ⟨after (.slotPowerGoodRise 3) rig, []⟩ :=
  ⟨rig_sound.1, rig_running.2, rig_sound.2.2.2.2.2.1, witness_kept.2.2.2⟩

theorem witness_ZonesKept : rig.zonesWf ∧ Sys2Proof.Machine.step busy = .next ⟨after (.slotPowerGoodRise 3) rig, []⟩ :=
  ⟨rig_sound.2.2.2.2.2.2.1, witness_kept.2.2.2⟩

theorem witness_StepsKept :
    rig.slotsWf ∧ rig.work = {} ∧ rig.stepsWf ∧ Sys2Proof.Machine.step busy = .next ⟨after (.slotPowerGoodRise 3) rig, []⟩ :=
  ⟨rig_sound.2.1, rig_running.2, rig_sound.2.2.2.2.2.2.2.1, witness_kept.2.2.2⟩

theorem witness_LinksKept :
    rig.mastershipWf ∧ rig.watchesWf ∧ Sys2Proof.Machine.step busy = .next ⟨after (.slotPowerGoodRise 3) rig, []⟩ :=
  ⟨rig_sound.2.2.2.2.2.2.2.2.1, rig_sound.2.2.2.2.2.2.2.2.2.1, witness_kept.2.2.2⟩

theorem witness_CoolingKept : rig.coolingWf ∧ Sys2Proof.Machine.step busy = .next ⟨after (.slotPowerGoodRise 3) rig, []⟩ :=
  ⟨rig_sound.2.2.2.2.2.2.2.2.2.2, witness_kept.2.2.2⟩

theorem witness_ActiveSetOnlyByCommit :
    (∀ l, Instr.uptimeTick ≠ .zoneCommit l) ∧ Instr.isReset .uptimeTick = false ∧
      exec .uptimeTick ⟨rig, []⟩ = .next ⟨after .uptimeTick rig, []⟩ ∧ (after .uptimeTick rig).hold = none := by
  refine ⟨?_, rfl, rfl, by decide +kernel⟩
  intro l h; cases h

end Sys2Proof.Tests
end

section
/-! Proofs about the Sensor Scan Unit: what taking a sample and closing a window do to a channel's record (R6, R7), and the
arithmetic of the published average. -/

namespace Sys2Proof.Machine

/-! ## A window that fills -/

theorem ChanRec.close_of_clean {r : ChanRec} (clean : r.poisoned = false) :
    r.close = { r with
      published := .value ((r.acc + (r.window / 2 : Nat)) / (r.window : Nat)), narRuns := 0, acc := 0, count := 0
      health := .active } := by
  simp [ChanRec.close, clean]

theorem ChanRec.deliver_of_fills {x : Sample} {r : ChanRec} (fills : (r.take x).window ≤ (r.take x).count) :
    r.deliver x = ((r.take x).close, true) := if_pos fills

theorem ChanRec.deliver_value_of_fills {r : ChanRec} (v : Int) (clean : r.poisoned = false)
    (fills : r.count + 1 = r.window) :
    r.deliver (.value v) =
      ({ r with
          recent := .value v, published := .value ((r.acc + v + (r.window / 2 : Nat)) / (r.window : Nat)), narRuns := 0
          health := .active, acc := 0, count := 0 }, true) := by
  have full : (r.take (.value v)).window ≤ (r.take (.value v)).count := Nat.le_of_eq fills.symm
  rw [ChanRec.deliver_of_fills full, ChanRec.close_of_clean (r := r.take (.value v)) clean]
  rfl

/-! ## The average of a window -/

/-- A window has one sample or an even number of them, so `n / 2` is half of `n` exactly wherever a tie can occur. -/
theorem ChanRec.window_one_or_even (r : ChanRec) : r.window = 1 ∨ r.window = 2 * (r.window / 2) := by
  cases exponent : r.k.val with
  | zero => exact .inl (by simp [ChanRec.window, exponent])
  | succ j =>
    have even : 2 ∣ r.window := by
      rw [ChanRec.window, exponent, Nat.pow_succ]
      exact Nat.dvd_trans (by decide) (Nat.dvd_mul_left 4 (4 ^ j))
    exact .inr (Nat.mul_div_cancel' even).symm

theorem ChanRec.window_pos (r : ChanRec) : 0 < r.window := Nat.pow_pos (by decide)

theorem mul_average_bounds {n : Nat} (pos : 0 < n) (sum : Int) :
    let a := (sum + (n / 2 : Nat)) / (n : Nat)
    n * a ≤ sum + (n / 2 : Nat) ∧ sum + (n / 2 : Nat) < n * a + n :=
  have pos' : (0 : Int) < n := Int.natCast_pos.mpr pos
  ⟨Int.mul_ediv_self_le (Int.ne_of_gt pos'), Int.lt_mul_ediv_self_add pos'⟩

/-- The bounds of the floor leave `p` within half of `n` of the sum, and at that distance only above it. -/
theorem nearest_of_bounds {n : Nat} (half : n = 1 ∨ n = 2 * (n / 2)) {p sum : Int}
    (below : p ≤ sum + (n / 2 : Nat)) (above : sum + (n / 2 : Nat) < p + n) :
    (2 * (p - sum)).natAbs ≤ n ∧ ((2 * (p - sum)).natAbs = n → sum < p) := by
  obtain one | even := half
  · subst one
    omega
  · omega

theorem average_mem_range {n : Nat} (pos : 0 < n) {lo hi sum : Int} (least : n * lo ≤ sum) (most : sum ≤ n * hi) :
    lo ≤ (sum + (n / 2 : Nat)) / (n : Nat) ∧ (sum + (n / 2 : Nat)) / (n : Nat) ≤ hi := by
  have pos' : (0 : Int) < n := Int.natCast_pos.mpr pos
  have part : n / 2 < n := Nat.div_lt_self pos (by decide)
  constructor
  · rw [Int.le_ediv_iff_mul_le pos', Int.mul_comm]
    omega
  · rw [← Int.lt_add_one_iff, Int.ediv_lt_iff_lt_mul pos', Int.add_mul, Int.one_mul, Int.mul_comm]
    omega

/-- Settles O10: the delivery computed once, then the floor's bounds, which give the rest. -/
theorem windowAverage : Obligations.WindowAverage := by
  intro r v n sum a clean fills
  obtain ⟨below, above⟩ := mul_average_bounds r.window_pos sum
  obtain ⟨near, tie⟩ := nearest_of_bounds r.window_one_or_even below above
  exact ⟨ChanRec.deliver_value_of_fills v clean fills, below, above, near, tie,
    fun _ _ least most => average_mem_range r.window_pos least most⟩

end Sys2Proof.Machine
end

section
/-! Proofs about the Power Budget Unit: the figures of an evaluation (R40), and admission and commitment (R44). -/

namespace Sys2Proof.Machine

/-! ## Available power -/

/-- A derate only takes away: at most `cap`, whatever the percentage. -/
theorem derated_le_of_le {raw cap : Nat} (le : raw ≤ cap) (derate : Nat) :
    raw * (100 - derate) ≤ cap * 100 ∧ raw * (100 - derate) / 100 ≤ cap :=
  have product : raw * (100 - derate) ≤ cap * 100 := Nat.mul_le_mul le (Nat.sub_le 100 derate)
  ⟨product, Nat.div_le_of_le_mul (Nat.mul_comm cap 100 ▸ product)⟩

theorem Dev.figureRest_available (d : Dev) :
    d.figureRest.pbu.available = d.pbu.raw * (100 - d.figureRest.pbu.derate) / 100 := rfl

theorem Dev.figureRest_available_of_figures {d : Dev} {raw derate : Nat} (hraw : d.pbu.raw = raw)
    (hderate : d.figureRest.pbu.derate = derate) :
    d.figureRest.pbu.available = raw * (100 - derate) / 100 := by
  rw [Dev.figureRest_available, hraw, hderate]

/-! ## Admission and commitment -/

theorem Dev.fits_iff (d : Dev) (w : Nat) : d.fits w = true ↔ d.pbu.allocated + w ≤ d.pbu.available :=
  decide_eq_true_iff

@[simp] theorem Dev.commit_allocated (w : Nat) (d : Dev) : (d.commit w).pbu.allocated = d.pbu.allocated + w := rfl

@[simp] theorem Dev.commit_available (w : Nat) (d : Dev) : (d.commit w).pbu.available = d.pbu.available := rfl

theorem Dev.commit_headroom (w : Nat) (d : Dev) : (d.commit w).headroom = d.headroom - w := by
  simp only [Dev.headroom, Dev.commit_allocated, Dev.commit_available]
  omega

/-- Settles O17: the formula, its bound for four bays of 4000 W, and what a commitment takes from the headroom. -/
theorem availablePower : Obligations.AvailablePower := by
  intro d w e
  exact ⟨d.figureRest_available, fun le => derated_le_of_le le e.pbu.derate, Dev.figureRest_available_of_figures,
    Dev.figureRest_available_of_figures, d.fits_iff w, d.commit_allocated w, d.commit_headroom w⟩

end Sys2Proof.Machine
end

section
/-! Proofs about the Port Controller: the service of a request that passes R171's checks, the one stamp of a port, and PORT
CONFIGURE (R91). -/

namespace Sys2Proof.Machine

/-! ## A request that passes the checks -/

/-- A condition block in KEEP mode takes no entry away (R164). -/
theorem Dev.consume_of_keeps {c : Cond} (keeps : c.consume = false) (l : Link) (ok : Bool) (d : Dev) :
    d.consume l c ok = d := by
  simp [Dev.consume, keeps]

theorem runOwner_of_keeps {c : Option Cond} (keeps : ∀ k ∈ c, k.consume = false) (l : Link) (owner : Owner) (b : List Byte)
    (d : Dev) : runOwner l owner c b d = owner c b d := by
  unfold runOwner
  split
  · next d1 items k answered => rw [answered, Dev.consume_of_keeps (keeps k rfl)]
  · rfl

theorem Frame.cond_of_passes {f : Frame} {d : Dev} {l : Link} {b : List Byte} (h : f.passes d l b) (hc : f.hasCond = true) :
    ∃ k, f.cond = some k ∧ k.consume = false ∧ d.failing l k = [] := by
  have holds := (h.2 hc).2
  cases hk : f.cond with
  | none => simp [hk] at holds
  | some k => exact ⟨k, rfl, by simpa [hk] using holds⟩

/-- The checks of R171 lead to the owner, with the condition block if there is one. -/
theorem judgeRequest_of_takes {s : State} {l : Link} {ty : Byte} {f : Frame} {b : List Byte} (h : s.takes l ty f b)
    (owner : Owner) : ∃ c, judgeRequest l f owner s.dev = owner c b s.dev := by
  obtain ⟨-, -, rfl, need, master, passes⟩ := h
  cases hc : f.hasCond with
  | false =>
    exact ⟨none, (judgeRequest_passes l f owner s.dev b passes.1 hc need master).trans (runOwner_of_keeps (by simp) l owner b s.dev)⟩
  | true =>
    obtain ⟨k, hk, keeps, fresh⟩ := Frame.cond_of_passes passes hc
    refine ⟨some k, ?_⟩
    rw [judgeRequest_cond l f owner s.dev b k passes.1 hk (passes.2 hc).1 need master fresh]
    exact runOwner_of_keeps (by simpa using keeps) l owner b s.dev

/-- The owner's part, the end of the event, and the reply formed from the state it leaves (R169). -/
theorem State.serve_of_takes {s : State} {l : Link} {ty : Byte} {f : Frame} {b : List Byte} (h : s.takes l ty f b)
    {owner : Owner} {e : Dev} {st : Status} {items : Dev → List Item} (answers : ∀ c, owner c b s.dev = (e, .now st items)) :
    serve ty l owner s = .next { s with dev := e.settle.replied l f st (items e.settle) } := by
  obtain ⟨c, judged⟩ := judgeRequest_of_takes h owner
  obtain ⟨⟨runs, -⟩, atHead, isTy, -⟩ := h
  rw [serve_frame ty l owner s f runs atHead isTy, Dev.serveFrame, judged, answers c]
  rfl

/-- An owner that changes nothing leaves the part as it was, but for the reply. -/
theorem State.serve_unchanged_of_takes {s : State} {l : Link} {ty : Byte} {f : Frame} {b : List Byte} (h : s.takes l ty f b)
    {owner : Owner} {st : Status} {items : Dev → List Item} (answers : ∀ c, owner c b s.dev = (s.dev, .now st items)) :
    serve ty l owner s = .next { s with dev := s.dev.replied l f st (items s.dev) } := by
  rw [State.serve_of_takes h answers, Dev.settle_idle s.dev h.1.2]

/-! ## The one stamp of a port -/

/-- The work of an event that only took stamps is over at once. -/
theorem Dev.settle_of_stamps {d : Dev} {ps : List PortNo} {ss : List SlotNo}
    (h : d.work = { stampedPorts := ps, stampedSlots := ss }) : d.settle = { d with work := {} } := by
  simp [Dev.settle, Dev.runReclaims, Dev.restorePass, Dev.compile, Dev.distribute, h]

theorem modAt_modAt {α : Type} {n : Nat} (v : Vector α n) (i : Fin n) (f g : α → α) :
    modAt (modAt v i f) i g = modAt v i fun x => g (f x) := by
  simp [modAt]

/-- A port changed and stamped as all that an event does (R82, R157). -/
theorem Dev.settle_stampPort_modPort {d : Dev} (idle : d.work = {}) (p : PortNo) (f : PortRec → PortRec) :
    ((d.modPort p f).stampPort p).settle = d.useStamp.modPort p fun r => { f r with stamp := d.wtb.next } := by
  have first : p ∉ (d.modPort p f).work.stampedPorts := by simp [idle]
  rw [Dev.stampPort, if_neg first, Dev.settle_of_stamps (ps := [p]) (ss := []) (by simp [idle])]
  simp [Dev.useStamp, Dev.modPort, modAt_modAt, idle]

/-! ## PORT CONFIGURE -/

theorem clampStatus_of_above (most v : Nat) : clampStatus (most < v) = if v ≤ most then .ok else .clamped := by
  by_cases h : v ≤ most <;> simp [clampStatus, h]

theorem Dev.configurePort_held {d : Dev} {p : PortNo} {t : Tier} {pr : Fin 4}
    (held : (d.port p).tier = t ∧ (d.port p).priority = pr) : d.configurePort p t pr = d := if_pos held

theorem Dev.settle_configurePort_changed {d : Dev} (idle : d.work = {}) {p : PortNo} {t : Tier} {pr : Fin 4}
    (differs : ¬ ((d.port p).tier = t ∧ (d.port p).priority = pr)) :
    (d.configurePort p t pr).settle =
      d.useStamp.modPort p fun r => { r with tier := t, priority := pr, stamp := d.wtb.next } := by
  rw [Dev.configurePort, if_neg differs, Dev.settle_stampPort_modPort idle]

theorem exec_portConfigure (l : Link) (s : State) : exec (.portConfigure l) s = serve 0x30#8 l portConfigure s := rfl

theorem portConfigure_of_noPort {b : List Byte} (port : idOf 64 (ufld b 0 1) = none) (c : Option Cond) (d : Dev) :
    portConfigure c b d = (d, .now .badValue fun _ => []) := by
  simp only [portConfigure, port, refused, refuse]

theorem portConfigure_of_noTier {b : List Byte} {p : PortNo} (port : idOf 64 (ufld b 0 1) = some p)
    (tier : tierOf (ufld b 1 1) = none) (c : Option Cond) (d : Dev) :
    portConfigure c b d = (d, .now .badValue (stateSeat p)) := by
  simp only [portConfigure, port, tier, refusePort]

/-- What PORT CONFIGURE answers when the port and the tier exist (R91). -/
theorem portConfigure_of_named {b : List Byte} {p : PortNo} {t : Tier} (port : idOf 64 (ufld b 0 1) = some p)
    (tier : tierOf (ufld b 1 1) = some t) (c : Option Cond) (d : Dev) :
    portConfigure c b d =
      if (d.port p).state ≠ .offline then (d, .now .wrongState (stateSeat p))
      else
        (d.configurePort p t ⟨min 3 (ufld b 2 1), by omega⟩,
          .now (if ufld b 2 1 ≤ 3 then .ok else .clamped) fun d =>
            [u8 (tierCode (d.port p).tier), u8 (d.port p).priority.val] ++ stateSeat p d) := by
  simp only [portConfigure, port, tier, refusePort, clampStatus_of_above]

end Sys2Proof.Machine

namespace Sys2Proof.Proofs

open Machine

/-- Settles O28: the owner's answer in each branch of R91, served as a request that passes the checks. -/
theorem portConfigure : Obligations.PortConfigure := by
  intro s l f b h
  rw [exec_portConfigure]
  cases port : idOf 64 (ufld b 0 1) with
  | none => exact (State.serve_unchanged_of_takes h (portConfigure_of_noPort port · s.dev) :)
  | some p =>
    cases tier : tierOf (ufld b 1 1) with
    | none => exact (State.serve_unchanged_of_takes h (portConfigure_of_noTier port tier · s.dev) :)
    | some t =>
      have answer := (portConfigure_of_named port tier · s.dev)
      dsimp only
      split
      · next online => exact (State.serve_unchanged_of_takes h fun c => (answer c).trans (if_pos online) :)
      · next offline =>
        have answers := fun c => (answer c).trans (if_neg offline)
        split
        · next held =>
          have served := State.serve_unchanged_of_takes h fun c => Dev.configurePort_held held ▸ answers c
          rw [held.1, held.2] at served
          exact served
        · next differs =>
          have served := State.serve_of_takes h answers
          rw [Dev.settle_configurePort_changed h.1.2 differs] at served
          simp only [stateSeat, Dev.port_modPort_same, Dev.port_of_useStamp] at served
          exact served

end Sys2Proof.Proofs
end

section
/-! Proofs about the Zoning Engine: which ports a zone resolves to, and which pairs the reach matrix holds (R138). -/

namespace Sys2Proof.Machine

/-! ## Reading a port set -/

@[simp] theorem inMask_zero (q : PortNo) : inMask 0#64 q = false := by simp [inMask]

@[simp] theorem inMask_or (x y : PortSet) (q : PortNo) : inMask (x ||| y) q = (inMask x q || inMask y q) := by
  simp [inMask]

@[simp] theorem inMask_and (x y : PortSet) (q : PortNo) : inMask (x &&& y) q = (inMask x q && inMask y q) := by
  simp [inMask]

@[simp] theorem inMask_not (x : PortSet) (q : PortNo) : inMask (~~~ x) q = !inMask x q := by
  simp [inMask, q.isLt]

/-- The set of one port. -/
@[simp] theorem inMask_one_shiftLeft (p q : PortNo) : inMask (1#64 <<< p.val) q = decide (p = q) := by
  simp only [inMask, ← BitVec.twoPow_eq, BitVec.getLsbD_twoPow, p.isLt, decide_true, Bool.true_and, Fin.ext_iff]

theorem inMask_ite_or (c : Prop) [Decidable c] (x y : PortSet) (q : PortNo) :
    inMask (if c then x ||| y else x) q = true ↔ inMask x q = true ∨ c ∧ inMask y q = true := by
  split <;> simp [*]

theorem PortSet.ext_inMask {x y : PortSet} (same : ∀ q, inMask x q = true ↔ inMask y q = true) : x = y :=
  BitVec.eq_of_getLsbD_eq fun i lt => Bool.eq_iff_iff.mpr (same ⟨i, lt⟩)

theorem inMask_foldl_or {α : Type} (g : α → PortSet) (xs : List α) (m : PortSet) (q : PortNo) :
    inMask (xs.foldl (fun m x => m ||| g x) m) q = true ↔ inMask m q = true ∨ ∃ x ∈ xs, inMask (g x) q = true := by
  induction xs generalizing m with
  | nil => simp
  | cons x xs ih => simp [ih, or_assoc]

/-! ## Resolving a zone -/

theorem resolveZone_eq_foldl_filterMap (nodes : List NodeEntry) (ms : List Member) :
    resolveZone nodes ms = (ms.filterMap (resolveMember nodes)).foldl (fun m p => m ||| 1#64 <<< p.val) 0#64 := by
  rw [List.foldl_filterMap, resolveZone]
  congr
  funext m x
  cases resolveMember nodes x <;> rfl

/-- Step 1 of R138: a port stands in a zone when one of the members resolves to it. -/
theorem inMask_resolveZone (nodes : List NodeEntry) (ms : List Member) (q : PortNo) :
    inMask (resolveZone nodes ms) q = true ↔ ∃ m ∈ ms, resolveMember nodes m = some q := by
  rw [resolveZone_eq_foldl_filterMap, inMask_foldl_or]
  simp

theorem resolveZone_congr (nodes : List NodeEntry) {ms ns : List Member} (same : ∀ m, m ∈ ms ↔ m ∈ ns) :
    resolveZone nodes ms = resolveZone nodes ns :=
  PortSet.ext_inMask fun q => by simp only [inMask_resolveZone, same]

/-! ## A row of the matrix -/

/-- Step 2 of R138: the union of the zones that hold `p`. -/
theorem inMask_zoned (zones : List PortSet) (p q : PortNo) :
    inMask (zones.foldl (fun m z => if inMask z p then m ||| z else m) 0#64) q = true ↔
      ∃ x ∈ zones, inMask x p = true ∧ inMask x q = true := by
  rw [← List.foldl_filter, inMask_foldl_or]
  simp [and_assoc]

/-- Step 3 of R138: a port is free when no zone holds it. -/
theorem inMask_union_eq_false (zones : List PortSet) (q : PortNo) :
    inMask (zones.foldl (· ||| ·) 0#64) q = false ↔ ∀ x ∈ zones, inMask x q = false := by
  rw [← Bool.not_eq_true, inMask_foldl_or]
  simp

/-- Steps 2 and 3 of R138 as one row holds them, the port itself taken out. -/
theorem inMask_reachRow (zones : List PortSet) (mode : AccessMode) (p q : PortNo) :
    inMask (reachRow zones mode p) q = true ↔
      p ≠ q ∧ ((∃ x ∈ zones, inMask x p = true ∧ inMask x q = true) ∨
        mode = .opened ∧ ∀ x ∈ zones, inMask x p = false ∧ inMask x q = false) := by
  simp only [reachRow, inMask_and, inMask_not, inMask_one_shiftLeft, Bool.and_eq_true, inMask_ite_or, inMask_zoned,
    Bool.not_eq_true', inMask_union_eq_false, decide_eq_false_iff_not, and_assoc, imp_and, forall_and, and_comm (b := p ≠ q)]

theorem reachRow_symm (zones : List PortSet) (mode : AccessMode) (p q : PortNo) :
    inMask (reachRow zones mode p) q = inMask (reachRow zones mode q) p := by
  rw [Bool.eq_iff_iff, inMask_reachRow, inMask_reachRow]
  simp only [ne_comm (a := p), and_comm (a := inMask _ p = _)]

theorem reachRow_self (zones : List PortSet) (mode : AccessMode) (p : PortNo) :
    inMask (reachRow zones mode p) p = false := by
  simp [← Bool.not_eq_true, inMask_reachRow]

/-- A row depends on which port sets the zones give, not on their order or number. -/
theorem reachRow_congr {xs ys : List PortSet} (same : ∀ x, x ∈ xs ↔ x ∈ ys) (mode : AccessMode) (p : PortNo) :
    reachRow xs mode p = reachRow ys mode p :=
  PortSet.ext_inMask fun q => by simp only [inMask_reachRow, same]

/-! ## The matrix of an active set -/

/-- The port sets of the active set. -/
def Zne.resolved (z : Zne) : List PortSet := z.zones.map fun a => resolveZone z.nodes a.zone.members

theorem Zne.exists_mem_resolved (z : Zne) (P : PortSet → Prop) :
    (∃ x ∈ z.resolved, P x) ↔ ∃ a ∈ z.zones, P (resolveZone z.nodes a.zone.members) := by
  constructor
  · rintro ⟨x, hx, holds⟩
    obtain ⟨a, ha, rfl⟩ := List.mem_map.mp hx
    exact ⟨a, ha, holds⟩
  · rintro ⟨a, ha, holds⟩
    exact ⟨_, List.mem_map_of_mem ha, holds⟩

theorem Zne.forall_mem_resolved (z : Zne) (P : PortSet → Prop) :
    (∀ x ∈ z.resolved, P x) ↔ ∀ a ∈ z.zones, P (resolveZone z.nodes a.zone.members) := List.forall_mem_map

theorem reachMatrix_row (z : Zne) (p : PortNo) : (reachMatrix z)[p.val] = reachRow z.resolved z.mode p := by
  simp [reachMatrix, Zne.resolved]

theorem reachMatrix_congr {y z : Zne} (mode : y.mode = z.mode) (same : ∀ x, x ∈ y.resolved ↔ x ∈ z.resolved) :
    reachMatrix y = reachMatrix z :=
  Vector.ext fun i lt => by
    rw [reachMatrix_row y ⟨i, lt⟩, reachMatrix_row z ⟨i, lt⟩, mode, reachRow_congr same]

theorem Zne.resolved_subset {y z : Zne} (nodes : y.nodes = z.nodes)
    (matched : ∀ a ∈ z.zones, ∃ b ∈ y.zones, ∀ m, m ∈ b.zone.members ↔ m ∈ a.zone.members) :
    z.resolved ⊆ y.resolved := by
  intro x hx
  obtain ⟨a, ha, rfl⟩ := List.mem_map.mp hx
  obtain ⟨b, hb, same⟩ := matched a ha
  exact List.mem_map.mpr ⟨b, hb, by rw [nodes, resolveZone_congr z.nodes same]⟩

/-- Settles O37: the row's pairs read off its definition; the symmetry and the independence of order follow from them. -/
theorem reachCompiled : Obligations.ReachCompiled := by
  intro z p q stands
  have stands_iff (a : ActiveZone) (r : PortNo) :
      stands a r ↔ inMask (resolveZone z.nodes a.zone.members) r = true := by
    rw [inMask_resolveZone]
    refine exists_congr fun m => and_congr_right fun _ => ?_
    cases m with
    | port x => exact (Option.some_inj (a := x)).symm
    | node n => exact Iff.rfl
  refine ⟨?pairs, ?symmetric, ?irreflexive, ?orderFree⟩
  case pairs =>
    rw [reachMatrix_row, inMask_reachRow]
    simp only [Zne.exists_mem_resolved, Zne.forall_mem_resolved, stands_iff, Bool.not_eq_true]
  case symmetric => rw [reachMatrix_row, reachMatrix_row, reachRow_symm]
  case irreflexive => rw [reachMatrix_row, reachRow_self]
  case orderFree =>
    intro y mode nodes forth back
    exact reachMatrix_congr mode fun x => ⟨(Zne.resolved_subset nodes.symm back ·), (Zne.resolved_subset nodes forth ·)⟩

end Sys2Proof.Machine
end
